-- ==== Sys2Proof/Word.lean ====
section
/-! DEFINITION. The two widths of FES CORE (00_scope.md R4, R5): a byte is 8 bits, a word 16 bits. -/

namespace Sys2Proof

/-- A data value, a register `A`, `X`, `Y`, `SP`, one bus transfer (R4 `XLEN`). -/
abbrev Byte := BitVec 8

/-- A bus address, the register `PC` (R4 `ALEN`). -/
abbrev Word := BitVec 16

end Sys2Proof
end

