-- ==== Sys2Proof/Machine/Bits.lean ====
section
/-! DEFINITION. The bit-field, extension and byte-order helpers of 00_scope.md R5 and 30_encoding.md R82. -/

namespace Sys2Proof.Machine

/-- `w[7:0]`. -/
def lo (w : Word) : Byte := w.setWidth 8

/-- `w[15:8]`, also `page(w)` (R5). -/
def hi (w : Word) : Byte := w.extractLsb' 8 8

/-- `hi:lo`, the word whose high byte is `h` (R5; little-endian words, R54). -/
def word (h l : Byte) : Word := h ++ l

/-- `zext_16` (R5). -/
def zext16 (b : Byte) : Word := b.setWidth 16

/-- `sext_16` (R5). -/
def sext16 (b : Byte) : Word := b.signExtend 16

/-- `b[i]` as a flag. -/
def bit (b : Byte) (i : Nat) : Bool := b.getLsbD i

/-- A flag as the number 0 or 1. -/
def flagNat (f : Bool) : Nat := if f then 1 else 0

end Sys2Proof.Machine
end

