-- ==== Sys2Proof/Syntax.lean ====
section
/-! DEFINITION. The instruction set as syntax: the 56 operations (30_encoding.md R85), the 13 addressing modes (R83),
an operand as a mode with its bytes (R82), and `Instr`, one constructor per row of spec/opcode_table.json (R86). -/

namespace Sys2Proof

/-- The operations, the 56 mnemonics of R85. -/
inductive Op where
  | adc | and | asl | bcc | bcs | beq | bit | bmi
  | bne | bpl | brk | bvc | bvs | clc | cld | cli
  | clv | cmp | cpx | cpy | dec | dex | dey | eor
  | inc | inx | iny | jmp | jsr | lda | ldx | ldy
  | lsr | nop | ora | pha | php | pla | plp | rol
  | ror | rti | rts | sbc | sec | sed | sei | sta
  | stx | sty | tax | tay | tsx | txa | txs | tya
  deriving DecidableEq, Repr

/-- The 13 addressing modes of R83. -/
inductive Mode where
  | accumulator | absolute | absoluteIndexedX | absoluteIndexedY | immediate
  | implied | indirect | indirectPreIndexedX | indirectPostIndexedY | relative
  | zeroPage | zeroPageIndexedX | zeroPageIndexedY
  deriving DecidableEq, Repr

/-- An addressing mode together with the operand bytes it consumed (R81, R82). A two-byte operand is the word
`hi8:lo8`; a `relative` operand is the byte `rel8`, a signed offset. -/
inductive Operand where
  | accumulator
  | absolute (w : Word)
  | absoluteIndexedX (w : Word)
  | absoluteIndexedY (w : Word)
  | immediate (v : Byte)
  | implied
  | indirect (w : Word)
  | indirectPreIndexedX (z : Byte)
  | indirectPostIndexedY (z : Byte)
  | relative (r : Byte)
  | zeroPage (z : Byte)
  | zeroPageIndexedX (z : Byte)
  | zeroPageIndexedY (z : Byte)
  deriving DecidableEq, Repr

/-- The mode of an operand. -/
def Operand.mode : Operand → Mode
  | .accumulator => .accumulator
  | .absolute _ => .absolute
  | .absoluteIndexedX _ => .absoluteIndexedX
  | .absoluteIndexedY _ => .absoluteIndexedY
  | .immediate _ => .immediate
  | .implied => .implied
  | .indirect _ => .indirect
  | .indirectPreIndexedX _ => .indirectPreIndexedX
  | .indirectPostIndexedY _ => .indirectPostIndexedY
  | .relative _ => .relative
  | .zeroPage _ => .zeroPage
  | .zeroPageIndexedX _ => .zeroPageIndexedX
  | .zeroPageIndexedY _ => .zeroPageIndexedY

/-- One constructor per row of the opcode map R86: the mnemonic and the mode's short name (R83; left out where the
mnemonic has one mode only). The argument is the operand: `v` an immediate byte, `z` a zero-page byte, `r` a signed
branch offset, `w` a little-endian word. -/
inductive Instr where
  | adcImm (v : Byte)
  | adcZp (z : Byte)
  | adcZpx (z : Byte)
  | adcAbs (w : Word)
  | adcAbx (w : Word)
  | adcAby (w : Word)
  | adcIzx (z : Byte)
  | adcIzy (z : Byte)
  | andImm (v : Byte)
  | andZp (z : Byte)
  | andZpx (z : Byte)
  | andAbs (w : Word)
  | andAbx (w : Word)
  | andAby (w : Word)
  | andIzx (z : Byte)
  | andIzy (z : Byte)
  | aslAcc
  | aslZp (z : Byte)
  | aslZpx (z : Byte)
  | aslAbs (w : Word)
  | aslAbx (w : Word)
  | bcc (r : Byte)
  | bcs (r : Byte)
  | beq (r : Byte)
  | bitZp (z : Byte)
  | bitAbs (w : Word)
  | bmi (r : Byte)
  | bne (r : Byte)
  | bpl (r : Byte)
  | brk
  | bvc (r : Byte)
  | bvs (r : Byte)
  | clc
  | cld
  | cli
  | clv
  | cmpImm (v : Byte)
  | cmpZp (z : Byte)
  | cmpZpx (z : Byte)
  | cmpAbs (w : Word)
  | cmpAbx (w : Word)
  | cmpAby (w : Word)
  | cmpIzx (z : Byte)
  | cmpIzy (z : Byte)
  | cpxImm (v : Byte)
  | cpxZp (z : Byte)
  | cpxAbs (w : Word)
  | cpyImm (v : Byte)
  | cpyZp (z : Byte)
  | cpyAbs (w : Word)
  | decZp (z : Byte)
  | decZpx (z : Byte)
  | decAbs (w : Word)
  | decAbx (w : Word)
  | dex
  | dey
  | eorImm (v : Byte)
  | eorZp (z : Byte)
  | eorZpx (z : Byte)
  | eorAbs (w : Word)
  | eorAbx (w : Word)
  | eorAby (w : Word)
  | eorIzx (z : Byte)
  | eorIzy (z : Byte)
  | incZp (z : Byte)
  | incZpx (z : Byte)
  | incAbs (w : Word)
  | incAbx (w : Word)
  | inx
  | iny
  | jmpAbs (w : Word)
  | jmpInd (w : Word)
  | jsr (w : Word)
  | ldaImm (v : Byte)
  | ldaZp (z : Byte)
  | ldaZpx (z : Byte)
  | ldaAbs (w : Word)
  | ldaAbx (w : Word)
  | ldaAby (w : Word)
  | ldaIzx (z : Byte)
  | ldaIzy (z : Byte)
  | ldxImm (v : Byte)
  | ldxZp (z : Byte)
  | ldxZpy (z : Byte)
  | ldxAbs (w : Word)
  | ldxAby (w : Word)
  | ldyImm (v : Byte)
  | ldyZp (z : Byte)
  | ldyZpx (z : Byte)
  | ldyAbs (w : Word)
  | ldyAbx (w : Word)
  | lsrAcc
  | lsrZp (z : Byte)
  | lsrZpx (z : Byte)
  | lsrAbs (w : Word)
  | lsrAbx (w : Word)
  | nop
  | oraImm (v : Byte)
  | oraZp (z : Byte)
  | oraZpx (z : Byte)
  | oraAbs (w : Word)
  | oraAbx (w : Word)
  | oraAby (w : Word)
  | oraIzx (z : Byte)
  | oraIzy (z : Byte)
  | pha
  | php
  | pla
  | plp
  | rolAcc
  | rolZp (z : Byte)
  | rolZpx (z : Byte)
  | rolAbs (w : Word)
  | rolAbx (w : Word)
  | rorAcc
  | rorZp (z : Byte)
  | rorZpx (z : Byte)
  | rorAbs (w : Word)
  | rorAbx (w : Word)
  | rti
  | rts
  | sbcImm (v : Byte)
  | sbcZp (z : Byte)
  | sbcZpx (z : Byte)
  | sbcAbs (w : Word)
  | sbcAbx (w : Word)
  | sbcAby (w : Word)
  | sbcIzx (z : Byte)
  | sbcIzy (z : Byte)
  | sec
  | sed
  | sei
  | staZp (z : Byte)
  | staZpx (z : Byte)
  | staAbs (w : Word)
  | staAbx (w : Word)
  | staAby (w : Word)
  | staIzx (z : Byte)
  | staIzy (z : Byte)
  | stxZp (z : Byte)
  | stxZpy (z : Byte)
  | stxAbs (w : Word)
  | styZp (z : Byte)
  | styZpx (z : Byte)
  | styAbs (w : Word)
  | tax
  | tay
  | tsx
  | txa
  | txs
  | tya
  deriving DecidableEq, Repr

/-- The operation of an instruction (the mnemonic column of R86). -/
def Instr.op : Instr → Op
  | .adcImm _ => .adc
  | .adcZp _ => .adc
  | .adcZpx _ => .adc
  | .adcAbs _ => .adc
  | .adcAbx _ => .adc
  | .adcAby _ => .adc
  | .adcIzx _ => .adc
  | .adcIzy _ => .adc
  | .andImm _ => .and
  | .andZp _ => .and
  | .andZpx _ => .and
  | .andAbs _ => .and
  | .andAbx _ => .and
  | .andAby _ => .and
  | .andIzx _ => .and
  | .andIzy _ => .and
  | .aslAcc => .asl
  | .aslZp _ => .asl
  | .aslZpx _ => .asl
  | .aslAbs _ => .asl
  | .aslAbx _ => .asl
  | .bcc _ => .bcc
  | .bcs _ => .bcs
  | .beq _ => .beq
  | .bitZp _ => .bit
  | .bitAbs _ => .bit
  | .bmi _ => .bmi
  | .bne _ => .bne
  | .bpl _ => .bpl
  | .brk => .brk
  | .bvc _ => .bvc
  | .bvs _ => .bvs
  | .clc => .clc
  | .cld => .cld
  | .cli => .cli
  | .clv => .clv
  | .cmpImm _ => .cmp
  | .cmpZp _ => .cmp
  | .cmpZpx _ => .cmp
  | .cmpAbs _ => .cmp
  | .cmpAbx _ => .cmp
  | .cmpAby _ => .cmp
  | .cmpIzx _ => .cmp
  | .cmpIzy _ => .cmp
  | .cpxImm _ => .cpx
  | .cpxZp _ => .cpx
  | .cpxAbs _ => .cpx
  | .cpyImm _ => .cpy
  | .cpyZp _ => .cpy
  | .cpyAbs _ => .cpy
  | .decZp _ => .dec
  | .decZpx _ => .dec
  | .decAbs _ => .dec
  | .decAbx _ => .dec
  | .dex => .dex
  | .dey => .dey
  | .eorImm _ => .eor
  | .eorZp _ => .eor
  | .eorZpx _ => .eor
  | .eorAbs _ => .eor
  | .eorAbx _ => .eor
  | .eorAby _ => .eor
  | .eorIzx _ => .eor
  | .eorIzy _ => .eor
  | .incZp _ => .inc
  | .incZpx _ => .inc
  | .incAbs _ => .inc
  | .incAbx _ => .inc
  | .inx => .inx
  | .iny => .iny
  | .jmpAbs _ => .jmp
  | .jmpInd _ => .jmp
  | .jsr _ => .jsr
  | .ldaImm _ => .lda
  | .ldaZp _ => .lda
  | .ldaZpx _ => .lda
  | .ldaAbs _ => .lda
  | .ldaAbx _ => .lda
  | .ldaAby _ => .lda
  | .ldaIzx _ => .lda
  | .ldaIzy _ => .lda
  | .ldxImm _ => .ldx
  | .ldxZp _ => .ldx
  | .ldxZpy _ => .ldx
  | .ldxAbs _ => .ldx
  | .ldxAby _ => .ldx
  | .ldyImm _ => .ldy
  | .ldyZp _ => .ldy
  | .ldyZpx _ => .ldy
  | .ldyAbs _ => .ldy
  | .ldyAbx _ => .ldy
  | .lsrAcc => .lsr
  | .lsrZp _ => .lsr
  | .lsrZpx _ => .lsr
  | .lsrAbs _ => .lsr
  | .lsrAbx _ => .lsr
  | .nop => .nop
  | .oraImm _ => .ora
  | .oraZp _ => .ora
  | .oraZpx _ => .ora
  | .oraAbs _ => .ora
  | .oraAbx _ => .ora
  | .oraAby _ => .ora
  | .oraIzx _ => .ora
  | .oraIzy _ => .ora
  | .pha => .pha
  | .php => .php
  | .pla => .pla
  | .plp => .plp
  | .rolAcc => .rol
  | .rolZp _ => .rol
  | .rolZpx _ => .rol
  | .rolAbs _ => .rol
  | .rolAbx _ => .rol
  | .rorAcc => .ror
  | .rorZp _ => .ror
  | .rorZpx _ => .ror
  | .rorAbs _ => .ror
  | .rorAbx _ => .ror
  | .rti => .rti
  | .rts => .rts
  | .sbcImm _ => .sbc
  | .sbcZp _ => .sbc
  | .sbcZpx _ => .sbc
  | .sbcAbs _ => .sbc
  | .sbcAbx _ => .sbc
  | .sbcAby _ => .sbc
  | .sbcIzx _ => .sbc
  | .sbcIzy _ => .sbc
  | .sec => .sec
  | .sed => .sed
  | .sei => .sei
  | .staZp _ => .sta
  | .staZpx _ => .sta
  | .staAbs _ => .sta
  | .staAbx _ => .sta
  | .staAby _ => .sta
  | .staIzx _ => .sta
  | .staIzy _ => .sta
  | .stxZp _ => .stx
  | .stxZpy _ => .stx
  | .stxAbs _ => .stx
  | .styZp _ => .sty
  | .styZpx _ => .sty
  | .styAbs _ => .sty
  | .tax => .tax
  | .tay => .tay
  | .tsx => .tsx
  | .txa => .txa
  | .txs => .txs
  | .tya => .tya

/-- The operand of an instruction (the mode column of R86 with the instruction's operand bytes). -/
def Instr.operand : Instr → Operand
  | .adcImm v => .immediate v
  | .adcZp z => .zeroPage z
  | .adcZpx z => .zeroPageIndexedX z
  | .adcAbs w => .absolute w
  | .adcAbx w => .absoluteIndexedX w
  | .adcAby w => .absoluteIndexedY w
  | .adcIzx z => .indirectPreIndexedX z
  | .adcIzy z => .indirectPostIndexedY z
  | .andImm v => .immediate v
  | .andZp z => .zeroPage z
  | .andZpx z => .zeroPageIndexedX z
  | .andAbs w => .absolute w
  | .andAbx w => .absoluteIndexedX w
  | .andAby w => .absoluteIndexedY w
  | .andIzx z => .indirectPreIndexedX z
  | .andIzy z => .indirectPostIndexedY z
  | .aslAcc => .accumulator
  | .aslZp z => .zeroPage z
  | .aslZpx z => .zeroPageIndexedX z
  | .aslAbs w => .absolute w
  | .aslAbx w => .absoluteIndexedX w
  | .bcc r => .relative r
  | .bcs r => .relative r
  | .beq r => .relative r
  | .bitZp z => .zeroPage z
  | .bitAbs w => .absolute w
  | .bmi r => .relative r
  | .bne r => .relative r
  | .bpl r => .relative r
  | .brk => .implied
  | .bvc r => .relative r
  | .bvs r => .relative r
  | .clc => .implied
  | .cld => .implied
  | .cli => .implied
  | .clv => .implied
  | .cmpImm v => .immediate v
  | .cmpZp z => .zeroPage z
  | .cmpZpx z => .zeroPageIndexedX z
  | .cmpAbs w => .absolute w
  | .cmpAbx w => .absoluteIndexedX w
  | .cmpAby w => .absoluteIndexedY w
  | .cmpIzx z => .indirectPreIndexedX z
  | .cmpIzy z => .indirectPostIndexedY z
  | .cpxImm v => .immediate v
  | .cpxZp z => .zeroPage z
  | .cpxAbs w => .absolute w
  | .cpyImm v => .immediate v
  | .cpyZp z => .zeroPage z
  | .cpyAbs w => .absolute w
  | .decZp z => .zeroPage z
  | .decZpx z => .zeroPageIndexedX z
  | .decAbs w => .absolute w
  | .decAbx w => .absoluteIndexedX w
  | .dex => .implied
  | .dey => .implied
  | .eorImm v => .immediate v
  | .eorZp z => .zeroPage z
  | .eorZpx z => .zeroPageIndexedX z
  | .eorAbs w => .absolute w
  | .eorAbx w => .absoluteIndexedX w
  | .eorAby w => .absoluteIndexedY w
  | .eorIzx z => .indirectPreIndexedX z
  | .eorIzy z => .indirectPostIndexedY z
  | .incZp z => .zeroPage z
  | .incZpx z => .zeroPageIndexedX z
  | .incAbs w => .absolute w
  | .incAbx w => .absoluteIndexedX w
  | .inx => .implied
  | .iny => .implied
  | .jmpAbs w => .absolute w
  | .jmpInd w => .indirect w
  | .jsr w => .absolute w
  | .ldaImm v => .immediate v
  | .ldaZp z => .zeroPage z
  | .ldaZpx z => .zeroPageIndexedX z
  | .ldaAbs w => .absolute w
  | .ldaAbx w => .absoluteIndexedX w
  | .ldaAby w => .absoluteIndexedY w
  | .ldaIzx z => .indirectPreIndexedX z
  | .ldaIzy z => .indirectPostIndexedY z
  | .ldxImm v => .immediate v
  | .ldxZp z => .zeroPage z
  | .ldxZpy z => .zeroPageIndexedY z
  | .ldxAbs w => .absolute w
  | .ldxAby w => .absoluteIndexedY w
  | .ldyImm v => .immediate v
  | .ldyZp z => .zeroPage z
  | .ldyZpx z => .zeroPageIndexedX z
  | .ldyAbs w => .absolute w
  | .ldyAbx w => .absoluteIndexedX w
  | .lsrAcc => .accumulator
  | .lsrZp z => .zeroPage z
  | .lsrZpx z => .zeroPageIndexedX z
  | .lsrAbs w => .absolute w
  | .lsrAbx w => .absoluteIndexedX w
  | .nop => .implied
  | .oraImm v => .immediate v
  | .oraZp z => .zeroPage z
  | .oraZpx z => .zeroPageIndexedX z
  | .oraAbs w => .absolute w
  | .oraAbx w => .absoluteIndexedX w
  | .oraAby w => .absoluteIndexedY w
  | .oraIzx z => .indirectPreIndexedX z
  | .oraIzy z => .indirectPostIndexedY z
  | .pha => .implied
  | .php => .implied
  | .pla => .implied
  | .plp => .implied
  | .rolAcc => .accumulator
  | .rolZp z => .zeroPage z
  | .rolZpx z => .zeroPageIndexedX z
  | .rolAbs w => .absolute w
  | .rolAbx w => .absoluteIndexedX w
  | .rorAcc => .accumulator
  | .rorZp z => .zeroPage z
  | .rorZpx z => .zeroPageIndexedX z
  | .rorAbs w => .absolute w
  | .rorAbx w => .absoluteIndexedX w
  | .rti => .implied
  | .rts => .implied
  | .sbcImm v => .immediate v
  | .sbcZp z => .zeroPage z
  | .sbcZpx z => .zeroPageIndexedX z
  | .sbcAbs w => .absolute w
  | .sbcAbx w => .absoluteIndexedX w
  | .sbcAby w => .absoluteIndexedY w
  | .sbcIzx z => .indirectPreIndexedX z
  | .sbcIzy z => .indirectPostIndexedY z
  | .sec => .implied
  | .sed => .implied
  | .sei => .implied
  | .staZp z => .zeroPage z
  | .staZpx z => .zeroPageIndexedX z
  | .staAbs w => .absolute w
  | .staAbx w => .absoluteIndexedX w
  | .staAby w => .absoluteIndexedY w
  | .staIzx z => .indirectPreIndexedX z
  | .staIzy z => .indirectPostIndexedY z
  | .stxZp z => .zeroPage z
  | .stxZpy z => .zeroPageIndexedY z
  | .stxAbs w => .absolute w
  | .styZp z => .zeroPage z
  | .styZpx z => .zeroPageIndexedX z
  | .styAbs w => .absolute w
  | .tax => .implied
  | .tay => .implied
  | .tsx => .implied
  | .txa => .implied
  | .txs => .implied
  | .tya => .implied

/-- The addressing mode of an instruction (the mode column of R86). -/
def Instr.mode (i : Instr) : Mode := i.operand.mode

end Sys2Proof
end

