-- ==== Sys2Proof/Config.lean ====
section
/-! DEFINITION. What an implementation of FES CORE fixes (00_scope.md R4; 92_eei_decisions.md, last paragraph: "every
decided constant should be a field of the model's configuration"), and the one free value, the device oracle. The
values stand in Machine/Params.lean. -/

namespace Sys2Proof

/-- The seven independent one-bit flags of R15. -/
structure Flags where
  c : Bool
  z : Bool
  i : Bool
  d : Bool
  b : Bool
  v : Bool
  n : Bool
  deriving DecidableEq, Repr

/-- D8, U15: what the Break flag is. `stored`: FES's stored boolean (the decided value). `hardware`: the NMOS 6502's,
bit 4 of a pushed status byte tells a software push from an interrupt entry and pulls ignore it (GK4). -/
inductive BreakModel where
  | stored
  | hardware
  deriving DecidableEq, Repr

/-- The parameters of R4 that are decided and not fixed by a width. "All six bounds and `RAM_SIZE` are configuration
fields" (D1). -/
structure Config where
  /-- `RAM_LO`, first address of the RAM window (D1). -/
  ramLo : Word
  /-- `RAM_HI`, last address of the RAM window (D1). -/
  ramHi : Word
  /-- `RAM_SIZE`, bytes of physical RAM mirrored through the window (D1). -/
  ramSize : Nat
  /-- `DEV_LO`, first address of the device-register window (D1). -/
  devLo : Word
  /-- `DEV_HI`, last address of the device-register window (D1). -/
  devHi : Word
  /-- `PRG_LO`, first address of the program-data window (D1). -/
  prgLo : Word
  /-- `PRG_HI`, last address of the program-data window (D1). -/
  prgHi : Word
  /-- `BANK_SIZE`, bytes of one program-data bank (FES §3). -/
  bankSize : Nat
  /-- `STACK_BASE` (D6). -/
  stackBase : Word
  /-- `VEC_NMI` (D9). -/
  vecNmi : Word
  /-- `VEC_RESET` (D9). -/
  vecReset : Word
  /-- `VEC_IRQ`, shared by IRQ and BRK (D9). -/
  vecIrq : Word
  /-- `RESET_SP` (D10). -/
  resetSp : Byte
  /-- `RESET_FLAGS` (D10). -/
  resetFlags : Flags
  /-- `UNOFFICIAL` (R88, D11): the legal pair an unofficial byte would stand for. -/
  unofficial : List (Byte × Op × Mode)
  /-- `BREAK_MODEL` (D8). -/
  breakModel : BreakModel
  deriving DecidableEq, Repr

/-- DESIGN CHOICE, safe (log 4): the byte `DEVICE.dev_read(off)` returns at the `n`-th device access of the machine's
history. R46: "any value 0x00 to 0xFF, possibly different on each read of the same address". No body: a proof holds for
every device. -/
opaque Config.devRead : Nat → Word → Byte

end Sys2Proof
end

