-- ==== Sys2Proof/Machine/Flags.lean ====
section
/-! DEFINITION. Every flag computation of the spec: `SetZN` (10_state.md R17), the status byte (R18, R19), ADC and SBC
(42_arithmetic_logic.md R141, R142), BIT (R146), compare (R158), shifts and rotates (43_shift_rotate.md R171 to R174). -/

namespace Sys2Proof.Machine

/-- `SetZN(v)` (R17). -/
def setZN (v : Byte) (f : Flags) : Flags := { f with z := v == 0, n := bit v 7 }

/-- `PackP()`, `N:V:1:B:D:I:Z:C` (R18). Under `BREAK_MODEL` = `stored` bit 4 is the stored `B` in every push; under
`hardware` it says whether software (PHP, BRK) pushed (D8, GK4). -/
def packP (m : BreakModel) (soft : Bool) (f : Flags) : Byte :=
  let b := match m with
    | .stored => f.b
    | .hardware => soft
  BitVec.ofNat 8 (flagNat f.n * 128 + flagNat f.v * 64 + 32 + flagNat b * 16 + flagNat f.d * 8 + flagNat f.i * 4
    + flagNat f.z * 2 + flagNat f.c)

/-- `UnpackP(p)` (R19): all seven flags from bits 7, 6, 4, 3, 2, 1, 0. Under `BREAK_MODEL` = `hardware` bit 4 is ignored
(GK4), so `old` keeps its `B`. -/
def unpackP (m : BreakModel) (p : Byte) (old : Flags) : Flags :=
  { n := bit p 7
    v := bit p 6
    b := match m with
      | .stored => bit p 4
      | .hardware => old.b
    d := bit p 3
    i := bit p 2
    z := bit p 1
    c := bit p 0 }

/-- What BRK does to the Break flag: 1 where it is stored (R213); there is no such flag under `hardware` (GK4). -/
def setBreak (m : BreakModel) (f : Flags) : Flags :=
  match m with
  | .stored => { f with b := true }
  | .hardware => f

/-- The result byte and flags of ADC (R141). `D` is not read (R157). -/
def addWithCarry (a m : Byte) (f : Flags) : Byte × Flags :=
  let s := a.toNat + m.toNat + flagNat f.c
  let r := BitVec.ofNat 8 s
  (r, setZN r { f with c := decide (s > 255), v := ((a ^^^ r) &&& (m ^^^ r) &&& 0x80) != 0 })

/-- The result byte and flags of SBC (R142); the incoming `C` is an inverted borrow. `D` is not read (R157). -/
def subtractWithBorrow (a m : Byte) (f : Flags) : Byte × Flags :=
  let d : Int := (a.toNat : Int) - m.toNat - (1 - flagNat f.c)
  let r := BitVec.ofInt 8 d
  (r, setZN r { f with c := decide (d ≥ 0), v := ((a ^^^ m) &&& (a ^^^ r) &&& 0x80) != 0 })

/-- `Compare(reg, m)` (R158). -/
def compareFlags (reg m : Byte) (f : Flags) : Flags :=
  { f with c := decide (reg ≥ m), z := reg == m, n := bit (reg - m) 7 }

/-- The flags of BIT: `Z` from `A & m`, `N` and `V` from `m` itself (R146). -/
def bitTest (a m : Byte) (f : Flags) : Flags :=
  { f with z := (a &&& m) == 0, n := bit m 7, v := bit m 6 }

/-- ASL: bit 7 to `C`, zero into bit 0 (R171). -/
def shiftLeft (m : Byte) (f : Flags) : Byte × Flags :=
  let r := m <<< 1
  (r, setZN r { f with c := bit m 7 })

/-- LSR: bit 0 to `C`, zero into bit 7 (R172). -/
def shiftRight (m : Byte) (f : Flags) : Byte × Flags :=
  let r := m >>> 1
  (r, setZN r { f with c := bit m 0 })

/-- ROL: bit 7 to `C`, the prior `C` into bit 0 (R173). -/
def rotateLeft (m : Byte) (f : Flags) : Byte × Flags :=
  let r := (m <<< 1) ||| BitVec.ofNat 8 (flagNat f.c)
  (r, setZN r { f with c := bit m 7 })

/-- ROR: bit 0 to `C`, the prior `C` into bit 7 (R174). -/
def rotateRight (m : Byte) (f : Flags) : Byte × Flags :=
  let r := (m >>> 1) ||| BitVec.ofNat 8 (flagNat f.c * 128)
  (r, setZN r { f with c := bit m 0 })

/-- INC (R150); `C` and `V` are not written. -/
def increment (m : Byte) (f : Flags) : Byte × Flags := (m + 1, setZN (m + 1) f)

/-- DEC (R151); `C` and `V` are not written. -/
def decrement (m : Byte) (f : Flags) : Byte × Flags := (m - 1, setZN (m - 1) f)

end Sys2Proof.Machine
end

