-- ==== Sys2Proof/Machine/Params.lean ====
section
/-! DEFINITION. The decided values of the configuration (00_scope.md R4; 92_eei_decisions.md D1, D6, D8 to D11). -/

namespace Sys2Proof.Machine

/-- FES CORE's configuration, the values of the table of R4. `unofficial` is empty and `breakModel` is `stored`, the
only values this spec admits (R88, D8). -/
def config : Config where
  ramLo := 0x0000
  ramHi := 0x1FFF
  ramSize := 0x0800
  devLo := 0x2000
  devHi := 0x7FFF
  prgLo := 0x8000
  prgHi := 0xFFFF
  bankSize := 16384
  stackBase := 0x0100
  vecNmi := 0xFFFA
  vecReset := 0xFFFC
  vecIrq := 0xFFFE
  resetSp := 0xFD
  resetFlags :=
    { c := false, z := false, i := true, d := false, b := false, v := false, n := false }
  unofficial := []
  breakModel := .stored

end Sys2Proof.Machine
end

