-- ==== Sys2Proof/Machine/State.lean ====
section
/-! DEFINITION. The machine's state as plain data (10_state.md R10 to R30, 70_reset_and_hazards.md R250), the reasons a
step can stop, and the state after reset. -/

namespace Sys2Proof.Machine

/-- Bytes by index, in one canonical form: indexes strictly rising and no entry equal to `Memory.blank`, which is what
an unlisted index reads as (`Memory.wf` in Machine/Ops.lean). -/
abbrev Memory := List Host.Cell

/-- What an unlisted byte of RAM or of the program data reads as. DESIGN CHOICE, unsafe (logs 1 and 2): the spec leaves
`INIT_RAM` (D26) and `PRG_BYTES` (D31) open; both are arguments of the host's moves in Machine/HostMoves.lean. -/
def Memory.blank : Byte := 0x00

/-- One access to the device handler (20_memory.md R46): `off` is the distance from `DEV_LO`. -/
inductive DevAccess where
  /-- `dev_read(off)` returned `v`. -/
  | read (off : Word) (v : Byte)
  /-- `dev_write(off, v)`. -/
  | write (off : Word) (v : Byte)
  deriving DecidableEq, Repr

/-- The two kinds of interrupt request (60_exceptions.md R224). -/
inductive InterruptKind where
  | nmi
  | irq
  deriving DecidableEq, Repr

/-- Everything the spec gives the machine. -/
@[ext]
structure State where
  /-- Accumulator (R11). -/
  a : Byte
  /-- Index register X (R12). -/
  x : Byte
  /-- Index register Y (R12). -/
  y : Byte
  /-- Stack pointer, an offset into the stack region (R13). -/
  sp : Byte
  /-- Program counter (R14). -/
  pc : Word
  /-- The seven flags (R15). -/
  flags : Flags
  /-- The NMI latch (R25). -/
  nmiPending : Bool
  /-- The IRQ latch (R25). -/
  irqPending : Bool
  /-- `BANKSEL`, the bank slot 0 shows when there are more than two (R26, R49). -/
  bankSel : Nat
  /-- `BANK_COUNT`, set by `install_program_banks` and by nothing else; 0 before it (R52). -/
  bankCount : Nat
  /-- The RAM array, by index 0 to 0x7FF (R27). -/
  ram : Memory
  /-- `PRG_BYTES`, by `bank * 16384 + offset`; no step changes it (R27, R52). -/
  prg : Memory
  /-- `CYC`, the sum of the cycle counts the steps returned; no rule reads it (R28). -/
  cyc : Nat
  /-- The MODEL's field: the device accesses made, oldest first (R46, R60). Its length indexes `Config.devRead`. -/
  devLog : List DevAccess
  /-- The MODEL's field: `reset()` has been applied, the precondition of `step()` (R250, R256). -/
  ready : Bool
  deriving DecidableEq, Repr

/-- Why a run stops as a fault. -/
inductive Fault where
  /-- R221 `IllegalOpcode(op, at)`, raised by the step on one of the 105 bytes of R87; `left` is the state at that point
  (`PC` = `at + 1`, nothing else of the core changed), from which the host may go on by its own policy. Safe: the model
  stops (D11: a permanent fault). -/
  | illegalOpcode (op : Byte) (addr : Word) (left : State)
  deriving DecidableEq, Repr

/-- Why a step or a host move is refused. -/
inductive Refusal where
  /-- An arm of `exec` without a meaning. No arm of this model raises it. Safe. -/
  | notModelled (mnemonic : String)
  /-- `step()` on a core to which `reset()` was never applied (R250: "a model refuses a step on a core that was never
  reset"). Safe. -/
  | neverReset
  /-- `select_bank(index)` with an index outside 0 to `BANK_COUNT - 1`, raised by the host's move (R51). Safe. -/
  | badBankIndex (index : Nat)
  /-- `install_program_banks` with `bank_count` = 0 or a wrong number of bytes, raised by the host's move (R52). Safe. -/
  | badInstall
  /-- `install_program_banks` after the first `reset()`, raised by the host's move (R256). Safe. -/
  | installAfterReset
  /-- `reset()` with no program data installed, raised by the host's move (R256). Safe. -/
  | noProgram
  deriving DecidableEq, Repr

/-- What a step, a meaning or a host move answers. -/
abbrev Result := Host.Outcome State Fault Refusal

/-- The state after power-on and `reset()` (R30, R250, R251) with one blank bank of program data installed and blank RAM
(logs 1 and 2, DESIGN CHOICE, unsafe). `pc` is the word at the reset vector, which such a bank holds as 0x0000;
the statement PowerOnSequenceReachesReset says that power-on, install and `reset()` lead here. -/
def State.reset : State where
  a := 0
  x := 0
  y := 0
  sp := config.resetSp
  pc := 0
  flags := config.resetFlags
  nmiPending := false
  irqPending := false
  bankSel := 0
  bankCount := 1
  ram := []
  prg := []
  cyc := 0
  devLog := []
  ready := true

end Sys2Proof.Machine
end

