-- ==== Sys2Proof/Machine/Ops.lean ====
section
/-! DEFINITION. The named operations over memory and registers: the two bus operations (20_memory.md R42 to R50), the
instruction stream (00_scope.md R6), the stack (10_state.md R20 to R23), interrupt entry and the return from it
(60_exceptions.md R227, R228, 45_stack_flags_system.md R213, R214). -/

namespace Sys2Proof.Machine

/-- The byte at index `k`; `Memory.blank` where none is listed. -/
def Memory.read : Memory → Nat → Byte
  | [], _ => Memory.blank
  | (j, b) :: m, k => if k = j then b else Memory.read m k

/-- Stores `v` at index `k` and keeps the canonical form: storing the blank byte removes the entry. -/
def Memory.write : Memory → Nat → Byte → Memory
  | [], k, v => if v = Memory.blank then [] else [(k, v)]
  | (j, b) :: m, k, v =>
    if k < j then (if v = Memory.blank then (j, b) :: m else (k, v) :: (j, b) :: m)
    else if k = j then (if v = Memory.blank then m else (k, v) :: m)
    else (j, b) :: Memory.write m k v

/-- The canonical form from index `lb` up: indexes strictly rising, all below `bound`, no entry blank. -/
def Memory.wfFrom (bound : Nat) : Nat → Memory → Bool
  | _, [] => true
  | lb, (j, b) :: m =>
    decide (lb ≤ j) && decide (j < bound) && decide (b ≠ Memory.blank) && Memory.wfFrom bound (j + 1) m

/-- The canonical form of a memory whose indexes are 0 to `bound - 1`. -/
def Memory.wf (bound : Nat) (m : Memory) : Bool := Memory.wfFrom bound 0 m

/-- The memory that holds the bytes `bs` from index `k` up and is blank elsewhere. -/
def Memory.ofBytes : Nat → List Byte → Memory
  | _, [] => []
  | k, b :: bs => if b = Memory.blank then Memory.ofBytes (k + 1) bs else (k, b) :: Memory.ofBytes (k + 1) bs

/-- The owner of an address, with the index it has there (R41: "every address in range resolves to exactly one owning
region"). -/
inductive Region where
  /-- `RAM[cell]` (R45). -/
  | ram (cell : Nat)
  /-- Offset `off` of the device-register window (R46). -/
  | device (off : Word)
  /-- `PRG_BYTES[index]` (R47). -/
  | prg (index : Nat)
  deriving DecidableEq, Repr

/-- `SlotBank(slot)` of R48 and R49. -/
def slotBank (s : State) (slot : Nat) : Nat :=
  if slot = 0 then (if s.bankCount > 2 then s.bankSel else 0) else s.bankCount - 1

/-- `RAM_LO` to `RAM_HI` (R41). -/
abbrev ramWindow (addr : Word) : Prop := config.ramLo ≤ addr ∧ addr ≤ config.ramHi

/-- `DEV_LO` to `DEV_HI` (R41). -/
abbrev deviceWindow (addr : Word) : Prop := config.devLo ≤ addr ∧ addr ≤ config.devHi

/-- `PRG_LO` to `PRG_HI` (R41). -/
abbrev prgWindow (addr : Word) : Prop := config.prgLo ≤ addr ∧ addr ≤ config.prgHi

/-- The memory arbiter's partition of the address space (R41, R45 to R49). The decided bounds leave no address outside
the three windows (`windows_partition` in Laws/Operands.lean); what other bounds left over would be the handler's, D1's
"conservative owner" (log 16). -/
def region (s : State) (addr : Word) : Region :=
  if ramWindow addr then .ram (addr.toNat % config.ramSize)
  else if deviceWindow addr then .device (addr - config.devLo)
  else if prgWindow addr then
    .prg (slotBank s ((addr - config.prgLo).toNat / config.bankSize) * config.bankSize
      + addr.toNat % config.bankSize)
  else .device (addr - config.devLo)

/-- `DEVICE.dev_read(off)`: a free byte, and one more access in the record (R46). -/
def devRead (off : Word) (s : State) : Byte × State :=
  (Config.devRead s.devLog.length off,
    { s with devLog := s.devLog ++ [.read off (Config.devRead s.devLog.length off)] })

/-- `DEVICE.dev_write(off, v)`: one more access in the record and nothing else (R46). -/
def devWrite (off : Word) (v : Byte) (s : State) : State :=
  { s with devLog := s.devLog ++ [.write off v] }

/-- `MemRead(addr, 1)` (R42). -/
def memRead (addr : Word) (s : State) : Byte × State :=
  match region s addr with
  | .ram cell => (s.ram.read cell, s)
  | .device off => devRead off s
  | .prg index => (s.prg.read index, s)

/-- `MemWrite(addr, 1, v)` (R43); a write to program data is discarded (R50). -/
def memWrite (addr : Word) (v : Byte) (s : State) : State :=
  match region s addr with
  | .ram cell => { s with ram := s.ram.write cell v }
  | .device off => devWrite off v s
  | .prg _ => s

/-- What the bus would read at `addr` without any side effect; none in the device window, whose bytes are free (R46). -/
def State.peek (s : State) (addr : Word) : Option Byte :=
  match region s addr with
  | .ram cell => some (s.ram.read cell)
  | .device _ => none
  | .prg index => some (s.prg.read index)

/-- Reads the word whose low byte is at `al` and whose high byte is at `ah`, low byte first (R54, R62). -/
def readWord (al ah : Word) (s : State) : Word × State :=
  let l := memRead al s
  let h := memRead ah l.2
  (word h.1 l.1, h.2)

/-- `Fetch8()`: one byte of the instruction stream (R6). -/
def fetch8 (s : State) : Byte × State :=
  let b := memRead s.pc s
  (b.1, { b.2 with pc := b.2.pc + 1 })

/-- The address the stack pointer designates (R20). -/
def stackAddr (sp : Byte) : Word := config.stackBase + zext16 sp

/-- `Push8(v)`: write, then decrement (R21). -/
def push8 (v : Byte) (s : State) : State :=
  let t := memWrite (stackAddr s.sp) v s
  { t with sp := t.sp - 1 }

/-- `Pull8()`: increment, then read (R22). -/
def pull8 (s : State) : Byte × State := memRead (stackAddr (s.sp + 1)) { s with sp := s.sp + 1 }

/-- `Push16(w)`: high byte, then low byte (R23). -/
def push16 (w : Word) (s : State) : State := push8 (lo w) (push8 (hi w) s)

/-- `Pull16()`: low byte, then high byte (R23). -/
def pull16 (s : State) : Word × State :=
  let l := pull8 s
  let h := pull8 l.2
  (word h.1 l.1, h.2)

/-- Adds a step's cycle count to `CYC` (R28). -/
def addCycles (n : Nat) (s : State) : State := { s with cyc := s.cyc + n }

/-- Taking an exception, the one sequence of NMI, IRQ and BRK: push the counter, push the status byte, set `I`, load the
counter from the vector at `vec` (R227 `InterruptEntry`; R213 from `Push16` on). `soft` says that BRK is the cause, which
only `BREAK_MODEL` = `hardware` distinguishes in the pushed byte (D8). The entry costs 7 cycles. -/
def enterInterrupt (soft : Bool) (vec : Word) (s : State) : State :=
  let t := push8 (packP config.breakModel soft s.flags) (push16 s.pc s)
  let t := { t with flags := { t.flags with i := true } }
  let v := readWord vec (vec + 1) t
  addCycles 7 { v.2 with pc := v.1 }

/-- The return from an exception: status first, then the counter, nothing added (R214); 6 cycles. -/
def returnFromInterrupt (s : State) : State :=
  let p := pull8 s
  let t := { p.2 with flags := unpackP config.breakModel p.1 p.2.flags }
  let w := pull16 t
  addCycles 6 { w.2 with pc := w.1 }

end Sys2Proof.Machine
end

