-- ==== Sys2Proof/Machine/Operands.lean ====
section
/-! DEFINITION. The Addressing-Mode Resolver (40_addressing_modes.md R100 to R119) and the shapes an instruction has
around it: read an operand, store to it, modify it in place, or neither. The operand bytes are already in the
instruction and `PC` already stands at the next instruction (R14, R100; log 15). -/

namespace Sys2Proof.Machine

/-- The resolver's result (R100). -/
inductive OperandSource where
  /-- An effective address, and whether the index addition crossed a page (R114). -/
  | addr (ea : Word) (crossed : Bool)
  /-- An immediate byte. -/
  | imm (v : Byte)
  /-- No operand; in Accumulator mode, the accumulator. -/
  | noOperand
  deriving DecidableEq, Repr

/-- `resolve(mode)` on the operand bytes (R101 to R113). The state changes only by the device accesses that pointer
reads may make. -/
def resolve (o : Operand) (s : State) : OperandSource × State :=
  match o with
  | .implied => (.noOperand, s)
  | .accumulator => (.noOperand, s)
  | .immediate v => (.imm v, s)
  | .zeroPage z => (.addr (zext16 z) false, s)
  | .zeroPageIndexedX z => (.addr (zext16 (z + s.x)) false, s)
  | .zeroPageIndexedY z => (.addr (zext16 (z + s.y)) false, s)
  | .absolute w => (.addr w false, s)
  | .absoluteIndexedX w => (.addr (w + zext16 s.x) (decide ((lo w).toNat + s.x.toNat > 0xFF)), s)
  | .absoluteIndexedY w => (.addr (w + zext16 s.y) (decide ((lo w).toNat + s.y.toNat > 0xFF)), s)
  | .indirect w =>
    -- R110: the high byte of the pointer's address is not incremented
    let t := readWord w (word (hi w) (lo w + 1)) s
    (.addr t.1 false, t.2)
  | .indirectPreIndexedX z =>
    let p := z + s.x
    let t := readWord (zext16 p) (zext16 (p + 1)) s
    (.addr t.1 false, t.2)
  | .indirectPostIndexedY z =>
    -- R112, D20: the pointer's high byte wraps within zero page
    let t := readWord (zext16 z) (zext16 (z + 1)) s
    (.addr (t.1 + zext16 s.y) (decide ((lo t.1).toNat + s.y.toNat > 0xFF)), t.2)
  | .relative r => (.addr (s.pc + sext16 r) (decide (hi (s.pc + sext16 r) ≠ hi s.pc)), s)

/-- `ReadOperand(src)` (R115). -/
def readOperand (src : OperandSource) (s : State) : Byte × State :=
  match src with
  | .addr ea _ => memRead ea s
  | .imm v => (v, s)
  | .noOperand => (s.a, s)

/-- `WriteOperand(src, v)` (R116). No instruction writes an immediate operand (R103), so that case changes nothing. -/
def writeOperand (src : OperandSource) (v : Byte) (s : State) : State :=
  match src with
  | .addr ea _ => memWrite ea v s
  | .imm _ => s
  | .noOperand => { s with a := v }

/-- `crossed` of R114, 0 where the mode has none. -/
def OperandSource.crossed : OperandSource → Bool
  | .addr _ c => c
  | _ => false

/-- The effective address; a source without one answers 0, and no instruction that asks for it has such a mode. -/
def OperandSource.ea : OperandSource → Word
  | .addr ea _ => ea
  | _ => 0

/-- `resolve`, then `ReadOperand`: the value an operation works on. -/
def operandValue (o : Operand) (s : State) : Byte × State :=
  let r := resolve o s
  readOperand r.1 r.2

/-- The extra cycle of the rows marked `+p` (R262). -/
def crossCycle (plus : Bool) (src : OperandSource) : Nat := if plus && src.crossed then 1 else 0

/-- An instruction that reads its operand: `f` is its effect on the operand's value. -/
def reading (o : Operand) (cycles : Nat) (plus : Bool) (f : Byte → State → State) (s : State) : Result :=
  let v := operandValue o s
  .next (addCycles (cycles + crossCycle plus (resolve o s).1) (f v.1 v.2))

/-- An instruction that stores the byte `v` at its effective address and reads nothing there (R100). -/
def storing (o : Operand) (cycles : Nat) (v : Byte) (s : State) : Result :=
  let r := resolve o s
  .next (addCycles cycles (writeOperand r.1 v r.2))

/-- An instruction that reads its operand and writes the result back to the same place (R57): `f` gives the result and
the flags. -/
def modifying (o : Operand) (cycles : Nat) (f : Byte → Flags → Byte × Flags) (s : State) : Result :=
  let r := resolve o s
  let v := readOperand r.1 r.2
  let q := f v.1 v.2.flags
  let t := writeOperand r.1 q.1 v.2
  .next (addCycles cycles { t with flags := q.2 })

/-- An instruction without an operand: `f` is its effect. -/
def implied (cycles : Nat) (f : State → State) (s : State) : Result := .next (addCycles cycles (f s))

end Sys2Proof.Machine
end

