-- ==== Sys2Proof/Machine/Arith.lean ====
section
/-! DEFINITION. Arithmetic, logic, compare, increment and decrement (42_arithmetic_logic.md R140 to R158): one meaning per form. -/

namespace Sys2Proof.Machine

/-- R141. -/
def adcEffect (m : Byte) (s : State) : State :=
  let r := addWithCarry s.a m s.flags
  { s with a := r.1, flags := r.2 }

/-- R142. -/
def sbcEffect (m : Byte) (s : State) : State :=
  let r := subtractWithBorrow s.a m s.flags
  { s with a := r.1, flags := r.2 }

/-- R143. -/
def andEffect (m : Byte) (s : State) : State := { s with a := s.a &&& m, flags := setZN (s.a &&& m) s.flags }

/-- R144. -/
def oraEffect (m : Byte) (s : State) : State := { s with a := s.a ||| m, flags := setZN (s.a ||| m) s.flags }

/-- R145. -/
def eorEffect (m : Byte) (s : State) : State := { s with a := s.a ^^^ m, flags := setZN (s.a ^^^ m) s.flags }

/-- R146. -/
def bitEffect (m : Byte) (s : State) : State := { s with flags := bitTest s.a m s.flags }

/-- R147. -/
def cmpEffect (m : Byte) (s : State) : State := { s with flags := compareFlags s.a m s.flags }

/-- R148. -/
def cpxEffect (m : Byte) (s : State) : State := { s with flags := compareFlags s.x m s.flags }

/-- R149. -/
def cpyEffect (m : Byte) (s : State) : State := { s with flags := compareFlags s.y m s.flags }

/-- R152. -/
def inxEffect (s : State) : State := { s with x := s.x + 1, flags := setZN (s.x + 1) s.flags }

/-- R153. -/
def inyEffect (s : State) : State := { s with y := s.y + 1, flags := setZN (s.y + 1) s.flags }

/-- R154. -/
def dexEffect (s : State) : State := { s with x := s.x - 1, flags := setZN (s.x - 1) s.flags }

/-- R155. -/
def deyEffect (s : State) : State := { s with y := s.y - 1, flags := setZN (s.y - 1) s.flags }

/-- `ADC` Immediate, 0x69 (R141; 2 cycles). -/
def execAdcImm (v : Byte) (s : State) : Result := reading (.immediate v) 2 false adcEffect s

/-- `ADC` ZeroPage, 0x65 (R141; 3 cycles). -/
def execAdcZp (z : Byte) (s : State) : Result := reading (.zeroPage z) 3 false adcEffect s

/-- `ADC` ZeroPageIndexedX, 0x75 (R141; 4 cycles). -/
def execAdcZpx (z : Byte) (s : State) : Result := reading (.zeroPageIndexedX z) 4 false adcEffect s

/-- `ADC` Absolute, 0x6D (R141; 4 cycles). -/
def execAdcAbs (w : Word) (s : State) : Result := reading (.absolute w) 4 false adcEffect s

/-- `ADC` AbsoluteIndexedX, 0x7D (R141; 4+p cycles). -/
def execAdcAbx (w : Word) (s : State) : Result := reading (.absoluteIndexedX w) 4 true adcEffect s

/-- `ADC` AbsoluteIndexedY, 0x79 (R141; 4+p cycles). -/
def execAdcAby (w : Word) (s : State) : Result := reading (.absoluteIndexedY w) 4 true adcEffect s

/-- `ADC` IndirectPreIndexedX, 0x61 (R141; 6 cycles). -/
def execAdcIzx (z : Byte) (s : State) : Result := reading (.indirectPreIndexedX z) 6 false adcEffect s

/-- `ADC` IndirectPostIndexedY, 0x71 (R141; 5+p cycles). -/
def execAdcIzy (z : Byte) (s : State) : Result := reading (.indirectPostIndexedY z) 5 true adcEffect s

/-- `SBC` Immediate, 0xE9 (R142; 2 cycles). -/
def execSbcImm (v : Byte) (s : State) : Result := reading (.immediate v) 2 false sbcEffect s

/-- `SBC` ZeroPage, 0xE5 (R142; 3 cycles). -/
def execSbcZp (z : Byte) (s : State) : Result := reading (.zeroPage z) 3 false sbcEffect s

/-- `SBC` ZeroPageIndexedX, 0xF5 (R142; 4 cycles). -/
def execSbcZpx (z : Byte) (s : State) : Result := reading (.zeroPageIndexedX z) 4 false sbcEffect s

/-- `SBC` Absolute, 0xED (R142; 4 cycles). -/
def execSbcAbs (w : Word) (s : State) : Result := reading (.absolute w) 4 false sbcEffect s

/-- `SBC` AbsoluteIndexedX, 0xFD (R142; 4+p cycles). -/
def execSbcAbx (w : Word) (s : State) : Result := reading (.absoluteIndexedX w) 4 true sbcEffect s

/-- `SBC` AbsoluteIndexedY, 0xF9 (R142; 4+p cycles). -/
def execSbcAby (w : Word) (s : State) : Result := reading (.absoluteIndexedY w) 4 true sbcEffect s

/-- `SBC` IndirectPreIndexedX, 0xE1 (R142; 6 cycles). -/
def execSbcIzx (z : Byte) (s : State) : Result := reading (.indirectPreIndexedX z) 6 false sbcEffect s

/-- `SBC` IndirectPostIndexedY, 0xF1 (R142; 5+p cycles). -/
def execSbcIzy (z : Byte) (s : State) : Result := reading (.indirectPostIndexedY z) 5 true sbcEffect s

/-- `AND` Immediate, 0x29 (R143; 2 cycles). -/
def execAndImm (v : Byte) (s : State) : Result := reading (.immediate v) 2 false andEffect s

/-- `AND` ZeroPage, 0x25 (R143; 3 cycles). -/
def execAndZp (z : Byte) (s : State) : Result := reading (.zeroPage z) 3 false andEffect s

/-- `AND` ZeroPageIndexedX, 0x35 (R143; 4 cycles). -/
def execAndZpx (z : Byte) (s : State) : Result := reading (.zeroPageIndexedX z) 4 false andEffect s

/-- `AND` Absolute, 0x2D (R143; 4 cycles). -/
def execAndAbs (w : Word) (s : State) : Result := reading (.absolute w) 4 false andEffect s

/-- `AND` AbsoluteIndexedX, 0x3D (R143; 4+p cycles). -/
def execAndAbx (w : Word) (s : State) : Result := reading (.absoluteIndexedX w) 4 true andEffect s

/-- `AND` AbsoluteIndexedY, 0x39 (R143; 4+p cycles). -/
def execAndAby (w : Word) (s : State) : Result := reading (.absoluteIndexedY w) 4 true andEffect s

/-- `AND` IndirectPreIndexedX, 0x21 (R143; 6 cycles). -/
def execAndIzx (z : Byte) (s : State) : Result := reading (.indirectPreIndexedX z) 6 false andEffect s

/-- `AND` IndirectPostIndexedY, 0x31 (R143; 5+p cycles). -/
def execAndIzy (z : Byte) (s : State) : Result := reading (.indirectPostIndexedY z) 5 true andEffect s

/-- `ORA` Immediate, 0x09 (R144; 2 cycles). -/
def execOraImm (v : Byte) (s : State) : Result := reading (.immediate v) 2 false oraEffect s

/-- `ORA` ZeroPage, 0x05 (R144; 3 cycles). -/
def execOraZp (z : Byte) (s : State) : Result := reading (.zeroPage z) 3 false oraEffect s

/-- `ORA` ZeroPageIndexedX, 0x15 (R144; 4 cycles). -/
def execOraZpx (z : Byte) (s : State) : Result := reading (.zeroPageIndexedX z) 4 false oraEffect s

/-- `ORA` Absolute, 0x0D (R144; 4 cycles). -/
def execOraAbs (w : Word) (s : State) : Result := reading (.absolute w) 4 false oraEffect s

/-- `ORA` AbsoluteIndexedX, 0x1D (R144; 4+p cycles). -/
def execOraAbx (w : Word) (s : State) : Result := reading (.absoluteIndexedX w) 4 true oraEffect s

/-- `ORA` AbsoluteIndexedY, 0x19 (R144; 4+p cycles). -/
def execOraAby (w : Word) (s : State) : Result := reading (.absoluteIndexedY w) 4 true oraEffect s

/-- `ORA` IndirectPreIndexedX, 0x01 (R144; 6 cycles). -/
def execOraIzx (z : Byte) (s : State) : Result := reading (.indirectPreIndexedX z) 6 false oraEffect s

/-- `ORA` IndirectPostIndexedY, 0x11 (R144; 5+p cycles). -/
def execOraIzy (z : Byte) (s : State) : Result := reading (.indirectPostIndexedY z) 5 true oraEffect s

/-- `EOR` Immediate, 0x49 (R145; 2 cycles). -/
def execEorImm (v : Byte) (s : State) : Result := reading (.immediate v) 2 false eorEffect s

/-- `EOR` ZeroPage, 0x45 (R145; 3 cycles). -/
def execEorZp (z : Byte) (s : State) : Result := reading (.zeroPage z) 3 false eorEffect s

/-- `EOR` ZeroPageIndexedX, 0x55 (R145; 4 cycles). -/
def execEorZpx (z : Byte) (s : State) : Result := reading (.zeroPageIndexedX z) 4 false eorEffect s

/-- `EOR` Absolute, 0x4D (R145; 4 cycles). -/
def execEorAbs (w : Word) (s : State) : Result := reading (.absolute w) 4 false eorEffect s

/-- `EOR` AbsoluteIndexedX, 0x5D (R145; 4+p cycles). -/
def execEorAbx (w : Word) (s : State) : Result := reading (.absoluteIndexedX w) 4 true eorEffect s

/-- `EOR` AbsoluteIndexedY, 0x59 (R145; 4+p cycles). -/
def execEorAby (w : Word) (s : State) : Result := reading (.absoluteIndexedY w) 4 true eorEffect s

/-- `EOR` IndirectPreIndexedX, 0x41 (R145; 6 cycles). -/
def execEorIzx (z : Byte) (s : State) : Result := reading (.indirectPreIndexedX z) 6 false eorEffect s

/-- `EOR` IndirectPostIndexedY, 0x51 (R145; 5+p cycles). -/
def execEorIzy (z : Byte) (s : State) : Result := reading (.indirectPostIndexedY z) 5 true eorEffect s

/-- `BIT` ZeroPage, 0x24 (R146; 3 cycles). -/
def execBitZp (z : Byte) (s : State) : Result := reading (.zeroPage z) 3 false bitEffect s

/-- `BIT` Absolute, 0x2C (R146; 4 cycles). -/
def execBitAbs (w : Word) (s : State) : Result := reading (.absolute w) 4 false bitEffect s

/-- `CMP` Immediate, 0xC9 (R147; 2 cycles). -/
def execCmpImm (v : Byte) (s : State) : Result := reading (.immediate v) 2 false cmpEffect s

/-- `CMP` ZeroPage, 0xC5 (R147; 3 cycles). -/
def execCmpZp (z : Byte) (s : State) : Result := reading (.zeroPage z) 3 false cmpEffect s

/-- `CMP` ZeroPageIndexedX, 0xD5 (R147; 4 cycles). -/
def execCmpZpx (z : Byte) (s : State) : Result := reading (.zeroPageIndexedX z) 4 false cmpEffect s

/-- `CMP` Absolute, 0xCD (R147; 4 cycles). -/
def execCmpAbs (w : Word) (s : State) : Result := reading (.absolute w) 4 false cmpEffect s

/-- `CMP` AbsoluteIndexedX, 0xDD (R147; 4+p cycles). -/
def execCmpAbx (w : Word) (s : State) : Result := reading (.absoluteIndexedX w) 4 true cmpEffect s

/-- `CMP` AbsoluteIndexedY, 0xD9 (R147; 4+p cycles). -/
def execCmpAby (w : Word) (s : State) : Result := reading (.absoluteIndexedY w) 4 true cmpEffect s

/-- `CMP` IndirectPreIndexedX, 0xC1 (R147; 6 cycles). -/
def execCmpIzx (z : Byte) (s : State) : Result := reading (.indirectPreIndexedX z) 6 false cmpEffect s

/-- `CMP` IndirectPostIndexedY, 0xD1 (R147; 5+p cycles). -/
def execCmpIzy (z : Byte) (s : State) : Result := reading (.indirectPostIndexedY z) 5 true cmpEffect s

/-- `CPX` Immediate, 0xE0 (R148; 2 cycles). -/
def execCpxImm (v : Byte) (s : State) : Result := reading (.immediate v) 2 false cpxEffect s

/-- `CPX` ZeroPage, 0xE4 (R148; 3 cycles). -/
def execCpxZp (z : Byte) (s : State) : Result := reading (.zeroPage z) 3 false cpxEffect s

/-- `CPX` Absolute, 0xEC (R148; 4 cycles). -/
def execCpxAbs (w : Word) (s : State) : Result := reading (.absolute w) 4 false cpxEffect s

/-- `CPY` Immediate, 0xC0 (R149; 2 cycles). -/
def execCpyImm (v : Byte) (s : State) : Result := reading (.immediate v) 2 false cpyEffect s

/-- `CPY` ZeroPage, 0xC4 (R149; 3 cycles). -/
def execCpyZp (z : Byte) (s : State) : Result := reading (.zeroPage z) 3 false cpyEffect s

/-- `CPY` Absolute, 0xCC (R149; 4 cycles). -/
def execCpyAbs (w : Word) (s : State) : Result := reading (.absolute w) 4 false cpyEffect s

/-- `INC` ZeroPage, 0xE6 (R150; 5 cycles). -/
def execIncZp (z : Byte) (s : State) : Result := modifying (.zeroPage z) 5 increment s

/-- `INC` ZeroPageIndexedX, 0xF6 (R150; 6 cycles). -/
def execIncZpx (z : Byte) (s : State) : Result := modifying (.zeroPageIndexedX z) 6 increment s

/-- `INC` Absolute, 0xEE (R150; 6 cycles). -/
def execIncAbs (w : Word) (s : State) : Result := modifying (.absolute w) 6 increment s

/-- `INC` AbsoluteIndexedX, 0xFE (R150; 7 cycles). -/
def execIncAbx (w : Word) (s : State) : Result := modifying (.absoluteIndexedX w) 7 increment s

/-- `DEC` ZeroPage, 0xC6 (R151; 5 cycles). -/
def execDecZp (z : Byte) (s : State) : Result := modifying (.zeroPage z) 5 decrement s

/-- `DEC` ZeroPageIndexedX, 0xD6 (R151; 6 cycles). -/
def execDecZpx (z : Byte) (s : State) : Result := modifying (.zeroPageIndexedX z) 6 decrement s

/-- `DEC` Absolute, 0xCE (R151; 6 cycles). -/
def execDecAbs (w : Word) (s : State) : Result := modifying (.absolute w) 6 decrement s

/-- `DEC` AbsoluteIndexedX, 0xDE (R151; 7 cycles). -/
def execDecAbx (w : Word) (s : State) : Result := modifying (.absoluteIndexedX w) 7 decrement s

/-- `INX` Implied, 0xE8 (R152; 2 cycles). -/
def execInx (s : State) : Result := implied 2 inxEffect s

/-- `INY` Implied, 0xC8 (R153; 2 cycles). -/
def execIny (s : State) : Result := implied 2 inyEffect s

/-- `DEX` Implied, 0xCA (R154; 2 cycles). -/
def execDex (s : State) : Result := implied 2 dexEffect s

/-- `DEY` Implied, 0x88 (R155; 2 cycles). -/
def execDey (s : State) : Result := implied 2 deyEffect s

end Sys2Proof.Machine
end

