-- ==== Sys2Proof/Machine/Control.lean ====
section
/-! DEFINITION. Branches, jumps, subroutine call and return (44_control_transfer.md R180 to R192): one meaning per form. -/

namespace Sys2Proof.Machine

/-- The common rule of the eight branches (R180): 2 cycles not taken, 3 taken, 4 taken to another page. `PC` is not
written when the condition is false. -/
def branch (cond : Bool) (r : Byte) (s : State) : Result :=
  let t := resolve (.relative r) s
  if cond then .next (addCycles (3 + crossCycle true t.1) { t.2 with pc := t.1.ea }) else .next (addCycles 2 t.2)

/-- R189: `PC <- ea`. -/
def jump (o : Operand) (cycles : Nat) (s : State) : Result :=
  let t := resolve o s
  .next (addCycles cycles { t.2 with pc := t.1.ea })

/-- R190: push the address of the instruction's last byte, then `PC <- ea`. -/
def callSubroutine (o : Operand) (cycles : Nat) (s : State) : Result :=
  let t := resolve o s
  .next (addCycles cycles { push16 (t.2.pc - 1) t.2 with pc := t.1.ea })

/-- R191: pull a word, `PC <- w + 1`. -/
def rtsEffect (s : State) : State :=
  let w := pull16 s
  { w.2 with pc := w.1 + 1 }

/-- `BCC` Relative, 0x90 (R181, R180). -/
def execBcc (r : Byte) (s : State) : Result := branch (!s.flags.c) r s

/-- `BCS` Relative, 0xB0 (R182, R180). -/
def execBcs (r : Byte) (s : State) : Result := branch s.flags.c r s

/-- `BEQ` Relative, 0xF0 (R183, R180). -/
def execBeq (r : Byte) (s : State) : Result := branch s.flags.z r s

/-- `BMI` Relative, 0x30 (R184, R180). -/
def execBmi (r : Byte) (s : State) : Result := branch s.flags.n r s

/-- `BNE` Relative, 0xD0 (R185, R180). -/
def execBne (r : Byte) (s : State) : Result := branch (!s.flags.z) r s

/-- `BPL` Relative, 0x10 (R186, R180). -/
def execBpl (r : Byte) (s : State) : Result := branch (!s.flags.n) r s

/-- `BVC` Relative, 0x50 (R187, R180). -/
def execBvc (r : Byte) (s : State) : Result := branch (!s.flags.v) r s

/-- `BVS` Relative, 0x70 (R188, R180). -/
def execBvs (r : Byte) (s : State) : Result := branch s.flags.v r s

/-- `JMP` Absolute, 0x4C (R189; 3 cycles). -/
def execJmpAbs (w : Word) (s : State) : Result := jump (.absolute w) 3 s

/-- `JMP` Indirect, 0x6C (R189; 5 cycles). -/
def execJmpInd (w : Word) (s : State) : Result := jump (.indirect w) 5 s

/-- `JSR` Absolute, 0x20 (R190; 6 cycles). -/
def execJsr (w : Word) (s : State) : Result := callSubroutine (.absolute w) 6 s

/-- `RTS` Implied, 0x60 (R191; 6 cycles). -/
def execRts (s : State) : Result := implied 6 rtsEffect s

end Sys2Proof.Machine
end

