-- ==== Sys2Proof/Machine/Load.lean ====
section
/-! DEFINITION. Loads, stores and register transfers (41_load_store_transfer.md R120 to R132): one meaning per instruction form. -/

namespace Sys2Proof.Machine

/-- R121: `A <- v; SetZN(v)`. -/
def ldaEffect (v : Byte) (s : State) : State := { s with a := v, flags := setZN v s.flags }

/-- R122: `X <- v; SetZN(v)`. -/
def ldxEffect (v : Byte) (s : State) : State := { s with x := v, flags := setZN v s.flags }

/-- R123: `Y <- v; SetZN(v)`. -/
def ldyEffect (v : Byte) (s : State) : State := { s with y := v, flags := setZN v s.flags }

/-- R127: `X <- A; SetZN(A)`. -/
def taxEffect (s : State) : State := { s with x := s.a, flags := setZN s.a s.flags }

/-- R128: `Y <- A; SetZN(A)`. -/
def tayEffect (s : State) : State := { s with y := s.a, flags := setZN s.a s.flags }

/-- R129: `A <- X; SetZN(X)`. -/
def txaEffect (s : State) : State := { s with a := s.x, flags := setZN s.x s.flags }

/-- R130: `A <- Y; SetZN(Y)`. -/
def tyaEffect (s : State) : State := { s with a := s.y, flags := setZN s.y s.flags }

/-- R131: `X <- SP; SetZN(SP)`. -/
def tsxEffect (s : State) : State := { s with x := s.sp, flags := setZN s.sp s.flags }

/-- R132: `SP <- X`, no flag. -/
def txsEffect (s : State) : State := { s with sp := s.x }

/-- `LDA` Immediate, 0xA9 (R121; 2 cycles). -/
def execLdaImm (v : Byte) (s : State) : Result := reading (.immediate v) 2 false ldaEffect s

/-- `LDA` ZeroPage, 0xA5 (R121; 3 cycles). -/
def execLdaZp (z : Byte) (s : State) : Result := reading (.zeroPage z) 3 false ldaEffect s

/-- `LDA` ZeroPageIndexedX, 0xB5 (R121; 4 cycles). -/
def execLdaZpx (z : Byte) (s : State) : Result := reading (.zeroPageIndexedX z) 4 false ldaEffect s

/-- `LDA` Absolute, 0xAD (R121; 4 cycles). -/
def execLdaAbs (w : Word) (s : State) : Result := reading (.absolute w) 4 false ldaEffect s

/-- `LDA` AbsoluteIndexedX, 0xBD (R121; 4+p cycles). -/
def execLdaAbx (w : Word) (s : State) : Result := reading (.absoluteIndexedX w) 4 true ldaEffect s

/-- `LDA` AbsoluteIndexedY, 0xB9 (R121; 4+p cycles). -/
def execLdaAby (w : Word) (s : State) : Result := reading (.absoluteIndexedY w) 4 true ldaEffect s

/-- `LDA` IndirectPreIndexedX, 0xA1 (R121; 6 cycles). -/
def execLdaIzx (z : Byte) (s : State) : Result := reading (.indirectPreIndexedX z) 6 false ldaEffect s

/-- `LDA` IndirectPostIndexedY, 0xB1 (R121; 5+p cycles). -/
def execLdaIzy (z : Byte) (s : State) : Result := reading (.indirectPostIndexedY z) 5 true ldaEffect s

/-- `LDX` Immediate, 0xA2 (R122; 2 cycles). -/
def execLdxImm (v : Byte) (s : State) : Result := reading (.immediate v) 2 false ldxEffect s

/-- `LDX` ZeroPage, 0xA6 (R122; 3 cycles). -/
def execLdxZp (z : Byte) (s : State) : Result := reading (.zeroPage z) 3 false ldxEffect s

/-- `LDX` ZeroPageIndexedY, 0xB6 (R122; 4 cycles). -/
def execLdxZpy (z : Byte) (s : State) : Result := reading (.zeroPageIndexedY z) 4 false ldxEffect s

/-- `LDX` Absolute, 0xAE (R122; 4 cycles). -/
def execLdxAbs (w : Word) (s : State) : Result := reading (.absolute w) 4 false ldxEffect s

/-- `LDX` AbsoluteIndexedY, 0xBE (R122; 4+p cycles). -/
def execLdxAby (w : Word) (s : State) : Result := reading (.absoluteIndexedY w) 4 true ldxEffect s

/-- `LDY` Immediate, 0xA0 (R123; 2 cycles). -/
def execLdyImm (v : Byte) (s : State) : Result := reading (.immediate v) 2 false ldyEffect s

/-- `LDY` ZeroPage, 0xA4 (R123; 3 cycles). -/
def execLdyZp (z : Byte) (s : State) : Result := reading (.zeroPage z) 3 false ldyEffect s

/-- `LDY` ZeroPageIndexedX, 0xB4 (R123; 4 cycles). -/
def execLdyZpx (z : Byte) (s : State) : Result := reading (.zeroPageIndexedX z) 4 false ldyEffect s

/-- `LDY` Absolute, 0xAC (R123; 4 cycles). -/
def execLdyAbs (w : Word) (s : State) : Result := reading (.absolute w) 4 false ldyEffect s

/-- `LDY` AbsoluteIndexedX, 0xBC (R123; 4+p cycles). -/
def execLdyAbx (w : Word) (s : State) : Result := reading (.absoluteIndexedX w) 4 true ldyEffect s

/-- `STA` ZeroPage, 0x85 (R124; 3 cycles). -/
def execStaZp (z : Byte) (s : State) : Result := storing (.zeroPage z) 3 s.a s

/-- `STA` ZeroPageIndexedX, 0x95 (R124; 4 cycles). -/
def execStaZpx (z : Byte) (s : State) : Result := storing (.zeroPageIndexedX z) 4 s.a s

/-- `STA` Absolute, 0x8D (R124; 4 cycles). -/
def execStaAbs (w : Word) (s : State) : Result := storing (.absolute w) 4 s.a s

/-- `STA` AbsoluteIndexedX, 0x9D (R124; 5 cycles). -/
def execStaAbx (w : Word) (s : State) : Result := storing (.absoluteIndexedX w) 5 s.a s

/-- `STA` AbsoluteIndexedY, 0x99 (R124; 5 cycles). -/
def execStaAby (w : Word) (s : State) : Result := storing (.absoluteIndexedY w) 5 s.a s

/-- `STA` IndirectPreIndexedX, 0x81 (R124; 6 cycles). -/
def execStaIzx (z : Byte) (s : State) : Result := storing (.indirectPreIndexedX z) 6 s.a s

/-- `STA` IndirectPostIndexedY, 0x91 (R124; 6 cycles). -/
def execStaIzy (z : Byte) (s : State) : Result := storing (.indirectPostIndexedY z) 6 s.a s

/-- `STX` ZeroPage, 0x86 (R125; 3 cycles). -/
def execStxZp (z : Byte) (s : State) : Result := storing (.zeroPage z) 3 s.x s

/-- `STX` ZeroPageIndexedY, 0x96 (R125; 4 cycles). -/
def execStxZpy (z : Byte) (s : State) : Result := storing (.zeroPageIndexedY z) 4 s.x s

/-- `STX` Absolute, 0x8E (R125; 4 cycles). -/
def execStxAbs (w : Word) (s : State) : Result := storing (.absolute w) 4 s.x s

/-- `STY` ZeroPage, 0x84 (R126; 3 cycles). -/
def execStyZp (z : Byte) (s : State) : Result := storing (.zeroPage z) 3 s.y s

/-- `STY` ZeroPageIndexedX, 0x94 (R126; 4 cycles). -/
def execStyZpx (z : Byte) (s : State) : Result := storing (.zeroPageIndexedX z) 4 s.y s

/-- `STY` Absolute, 0x8C (R126; 4 cycles). -/
def execStyAbs (w : Word) (s : State) : Result := storing (.absolute w) 4 s.y s

/-- `TAX` Implied, 0xAA (R127; 2 cycles). -/
def execTax (s : State) : Result := implied 2 taxEffect s

/-- `TAY` Implied, 0xA8 (R128; 2 cycles). -/
def execTay (s : State) : Result := implied 2 tayEffect s

/-- `TXA` Implied, 0x8A (R129; 2 cycles). -/
def execTxa (s : State) : Result := implied 2 txaEffect s

/-- `TYA` Implied, 0x98 (R130; 2 cycles). -/
def execTya (s : State) : Result := implied 2 tyaEffect s

/-- `TSX` Implied, 0xBA (R131; 2 cycles). -/
def execTsx (s : State) : Result := implied 2 tsxEffect s

/-- `TXS` Implied, 0x9A (R132; 2 cycles). -/
def execTxs (s : State) : Result := implied 2 txsEffect s

end Sys2Proof.Machine
end

