-- ==== Sys2Proof/Machine/Shift.lean ====
section
/-! DEFINITION. Shifts and rotates (43_shift_rotate.md R170 to R174): one meaning per form. -/

namespace Sys2Proof.Machine

/-- `ASL` Accumulator, 0x0A (R171; 2 cycles). -/
def execAslAcc (s : State) : Result := modifying .accumulator 2 shiftLeft s

/-- `ASL` ZeroPage, 0x06 (R171; 5 cycles). -/
def execAslZp (z : Byte) (s : State) : Result := modifying (.zeroPage z) 5 shiftLeft s

/-- `ASL` ZeroPageIndexedX, 0x16 (R171; 6 cycles). -/
def execAslZpx (z : Byte) (s : State) : Result := modifying (.zeroPageIndexedX z) 6 shiftLeft s

/-- `ASL` Absolute, 0x0E (R171; 6 cycles). -/
def execAslAbs (w : Word) (s : State) : Result := modifying (.absolute w) 6 shiftLeft s

/-- `ASL` AbsoluteIndexedX, 0x1E (R171; 7 cycles). -/
def execAslAbx (w : Word) (s : State) : Result := modifying (.absoluteIndexedX w) 7 shiftLeft s

/-- `LSR` Accumulator, 0x4A (R172; 2 cycles). -/
def execLsrAcc (s : State) : Result := modifying .accumulator 2 shiftRight s

/-- `LSR` ZeroPage, 0x46 (R172; 5 cycles). -/
def execLsrZp (z : Byte) (s : State) : Result := modifying (.zeroPage z) 5 shiftRight s

/-- `LSR` ZeroPageIndexedX, 0x56 (R172; 6 cycles). -/
def execLsrZpx (z : Byte) (s : State) : Result := modifying (.zeroPageIndexedX z) 6 shiftRight s

/-- `LSR` Absolute, 0x4E (R172; 6 cycles). -/
def execLsrAbs (w : Word) (s : State) : Result := modifying (.absolute w) 6 shiftRight s

/-- `LSR` AbsoluteIndexedX, 0x5E (R172; 7 cycles). -/
def execLsrAbx (w : Word) (s : State) : Result := modifying (.absoluteIndexedX w) 7 shiftRight s

/-- `ROL` Accumulator, 0x2A (R173; 2 cycles). -/
def execRolAcc (s : State) : Result := modifying .accumulator 2 rotateLeft s

/-- `ROL` ZeroPage, 0x26 (R173; 5 cycles). -/
def execRolZp (z : Byte) (s : State) : Result := modifying (.zeroPage z) 5 rotateLeft s

/-- `ROL` ZeroPageIndexedX, 0x36 (R173; 6 cycles). -/
def execRolZpx (z : Byte) (s : State) : Result := modifying (.zeroPageIndexedX z) 6 rotateLeft s

/-- `ROL` Absolute, 0x2E (R173; 6 cycles). -/
def execRolAbs (w : Word) (s : State) : Result := modifying (.absolute w) 6 rotateLeft s

/-- `ROL` AbsoluteIndexedX, 0x3E (R173; 7 cycles). -/
def execRolAbx (w : Word) (s : State) : Result := modifying (.absoluteIndexedX w) 7 rotateLeft s

/-- `ROR` Accumulator, 0x6A (R174; 2 cycles). -/
def execRorAcc (s : State) : Result := modifying .accumulator 2 rotateRight s

/-- `ROR` ZeroPage, 0x66 (R174; 5 cycles). -/
def execRorZp (z : Byte) (s : State) : Result := modifying (.zeroPage z) 5 rotateRight s

/-- `ROR` ZeroPageIndexedX, 0x76 (R174; 6 cycles). -/
def execRorZpx (z : Byte) (s : State) : Result := modifying (.zeroPageIndexedX z) 6 rotateRight s

/-- `ROR` Absolute, 0x6E (R174; 6 cycles). -/
def execRorAbs (w : Word) (s : State) : Result := modifying (.absolute w) 6 rotateRight s

/-- `ROR` AbsoluteIndexedX, 0x7E (R174; 7 cycles). -/
def execRorAbx (w : Word) (s : State) : Result := modifying (.absoluteIndexedX w) 7 rotateRight s

end Sys2Proof.Machine
end

