-- ==== Sys2Proof/Machine/System.lean ====
section
/-! DEFINITION. Stack, flag and system instructions (45_stack_flags_system.md R200 to R214): one meaning per instruction. -/

namespace Sys2Proof.Machine

/-- R201: `Push8(A)`. -/
def phaEffect (s : State) : State := push8 s.a s

/-- R202: `v = Pull8(); A <- v; SetZN(v)`. -/
def plaEffect (s : State) : State :=
  let v := pull8 s
  { v.2 with a := v.1, flags := setZN v.1 v.2.flags }

/-- R203: `Push8(PackP())`. -/
def phpEffect (s : State) : State := push8 (packP config.breakModel true s.flags) s

/-- R204: `UnpackP(Pull8())`. -/
def plpEffect (s : State) : State :=
  let v := pull8 s
  { v.2 with flags := unpackP config.breakModel v.1 v.2.flags }

/-- R205. -/
def clcEffect (s : State) : State := { s with flags := { s.flags with c := false } }

/-- R206. -/
def secEffect (s : State) : State := { s with flags := { s.flags with c := true } }

/-- R207. -/
def cliEffect (s : State) : State := { s with flags := { s.flags with i := false } }

/-- R208. -/
def seiEffect (s : State) : State := { s with flags := { s.flags with i := true } }

/-- R209. -/
def cldEffect (s : State) : State := { s with flags := { s.flags with d := false } }

/-- R210: accepted, and inert but for the pushed status byte (R157). -/
def sedEffect (s : State) : State := { s with flags := { s.flags with d := true } }

/-- R211. -/
def clvEffect (s : State) : State := { s with flags := { s.flags with v := false } }

/-- R213: `B <- 1`, then the shared entry at the IRQ vector with the counter one past the padding byte. -/
def breakEffect (s : State) : State :=
  enterInterrupt true config.vecIrq { s with flags := setBreak config.breakModel s.flags, pc := s.pc + 1 }

/-- `PHA` Implied, 0x48 (R201; 3 cycles). -/
def execPha (s : State) : Result := implied 3 phaEffect s

/-- `PLA` Implied, 0x68 (R202; 4 cycles). -/
def execPla (s : State) : Result := implied 4 plaEffect s

/-- `PHP` Implied, 0x08 (R203; 3 cycles). -/
def execPhp (s : State) : Result := implied 3 phpEffect s

/-- `PLP` Implied, 0x28 (R204; 4 cycles). -/
def execPlp (s : State) : Result := implied 4 plpEffect s

/-- `CLC` Implied, 0x18 (R205; 2 cycles). -/
def execClc (s : State) : Result := implied 2 clcEffect s

/-- `SEC` Implied, 0x38 (R206; 2 cycles). -/
def execSec (s : State) : Result := implied 2 secEffect s

/-- `CLI` Implied, 0x58 (R207; 2 cycles). -/
def execCli (s : State) : Result := implied 2 cliEffect s

/-- `SEI` Implied, 0x78 (R208; 2 cycles). -/
def execSei (s : State) : Result := implied 2 seiEffect s

/-- `CLD` Implied, 0xD8 (R209; 2 cycles). -/
def execCld (s : State) : Result := implied 2 cldEffect s

/-- `SED` Implied, 0xF8 (R210; 2 cycles). -/
def execSed (s : State) : Result := implied 2 sedEffect s

/-- `CLV` Implied, 0xB8 (R211; 2 cycles). -/
def execClv (s : State) : Result := implied 2 clvEffect s

/-- `NOP` Implied, 0xEA (R212; 2 cycles). -/
def execNop (s : State) : Result := implied 2 id s

/-- `BRK` Implied, 0x00 (R213; 7 cycles). -/
def execBrk (s : State) : Result := .next (breakEffect s)

/-- `RTI` Implied, 0x40 (R214; 6 cycles). -/
def execRti (s : State) : Result := .next (returnFromInterrupt s)

end Sys2Proof.Machine
end

