-- ==== Sys2Proof/Machine/Dispatch.lean ====
section
/-! DEFINITION. The dispatch: one arm per constructor of Instr, one direct call of its meaning. -/

namespace Sys2Proof.Machine

/-- `execute(operation, src)` of R220 (5), with the resolver inside each meaning. -/
def exec (i : Instr) (s : State) : Host.Outcome State Fault Refusal :=
  match i with
  | .adcImm v => Sys2Proof.Machine.execAdcImm v s
  | .adcZp z => Sys2Proof.Machine.execAdcZp z s
  | .adcZpx z => Sys2Proof.Machine.execAdcZpx z s
  | .adcAbs w => Sys2Proof.Machine.execAdcAbs w s
  | .adcAbx w => Sys2Proof.Machine.execAdcAbx w s
  | .adcAby w => Sys2Proof.Machine.execAdcAby w s
  | .adcIzx z => Sys2Proof.Machine.execAdcIzx z s
  | .adcIzy z => Sys2Proof.Machine.execAdcIzy z s
  | .andImm v => Sys2Proof.Machine.execAndImm v s
  | .andZp z => Sys2Proof.Machine.execAndZp z s
  | .andZpx z => Sys2Proof.Machine.execAndZpx z s
  | .andAbs w => Sys2Proof.Machine.execAndAbs w s
  | .andAbx w => Sys2Proof.Machine.execAndAbx w s
  | .andAby w => Sys2Proof.Machine.execAndAby w s
  | .andIzx z => Sys2Proof.Machine.execAndIzx z s
  | .andIzy z => Sys2Proof.Machine.execAndIzy z s
  | .aslAcc => Sys2Proof.Machine.execAslAcc s
  | .aslZp z => Sys2Proof.Machine.execAslZp z s
  | .aslZpx z => Sys2Proof.Machine.execAslZpx z s
  | .aslAbs w => Sys2Proof.Machine.execAslAbs w s
  | .aslAbx w => Sys2Proof.Machine.execAslAbx w s
  | .bcc r => Sys2Proof.Machine.execBcc r s
  | .bcs r => Sys2Proof.Machine.execBcs r s
  | .beq r => Sys2Proof.Machine.execBeq r s
  | .bitZp z => Sys2Proof.Machine.execBitZp z s
  | .bitAbs w => Sys2Proof.Machine.execBitAbs w s
  | .bmi r => Sys2Proof.Machine.execBmi r s
  | .bne r => Sys2Proof.Machine.execBne r s
  | .bpl r => Sys2Proof.Machine.execBpl r s
  | .brk => Sys2Proof.Machine.execBrk s
  | .bvc r => Sys2Proof.Machine.execBvc r s
  | .bvs r => Sys2Proof.Machine.execBvs r s
  | .clc => Sys2Proof.Machine.execClc s
  | .cld => Sys2Proof.Machine.execCld s
  | .cli => Sys2Proof.Machine.execCli s
  | .clv => Sys2Proof.Machine.execClv s
  | .cmpImm v => Sys2Proof.Machine.execCmpImm v s
  | .cmpZp z => Sys2Proof.Machine.execCmpZp z s
  | .cmpZpx z => Sys2Proof.Machine.execCmpZpx z s
  | .cmpAbs w => Sys2Proof.Machine.execCmpAbs w s
  | .cmpAbx w => Sys2Proof.Machine.execCmpAbx w s
  | .cmpAby w => Sys2Proof.Machine.execCmpAby w s
  | .cmpIzx z => Sys2Proof.Machine.execCmpIzx z s
  | .cmpIzy z => Sys2Proof.Machine.execCmpIzy z s
  | .cpxImm v => Sys2Proof.Machine.execCpxImm v s
  | .cpxZp z => Sys2Proof.Machine.execCpxZp z s
  | .cpxAbs w => Sys2Proof.Machine.execCpxAbs w s
  | .cpyImm v => Sys2Proof.Machine.execCpyImm v s
  | .cpyZp z => Sys2Proof.Machine.execCpyZp z s
  | .cpyAbs w => Sys2Proof.Machine.execCpyAbs w s
  | .decZp z => Sys2Proof.Machine.execDecZp z s
  | .decZpx z => Sys2Proof.Machine.execDecZpx z s
  | .decAbs w => Sys2Proof.Machine.execDecAbs w s
  | .decAbx w => Sys2Proof.Machine.execDecAbx w s
  | .dex => Sys2Proof.Machine.execDex s
  | .dey => Sys2Proof.Machine.execDey s
  | .eorImm v => Sys2Proof.Machine.execEorImm v s
  | .eorZp z => Sys2Proof.Machine.execEorZp z s
  | .eorZpx z => Sys2Proof.Machine.execEorZpx z s
  | .eorAbs w => Sys2Proof.Machine.execEorAbs w s
  | .eorAbx w => Sys2Proof.Machine.execEorAbx w s
  | .eorAby w => Sys2Proof.Machine.execEorAby w s
  | .eorIzx z => Sys2Proof.Machine.execEorIzx z s
  | .eorIzy z => Sys2Proof.Machine.execEorIzy z s
  | .incZp z => Sys2Proof.Machine.execIncZp z s
  | .incZpx z => Sys2Proof.Machine.execIncZpx z s
  | .incAbs w => Sys2Proof.Machine.execIncAbs w s
  | .incAbx w => Sys2Proof.Machine.execIncAbx w s
  | .inx => Sys2Proof.Machine.execInx s
  | .iny => Sys2Proof.Machine.execIny s
  | .jmpAbs w => Sys2Proof.Machine.execJmpAbs w s
  | .jmpInd w => Sys2Proof.Machine.execJmpInd w s
  | .jsr w => Sys2Proof.Machine.execJsr w s
  | .ldaImm v => Sys2Proof.Machine.execLdaImm v s
  | .ldaZp z => Sys2Proof.Machine.execLdaZp z s
  | .ldaZpx z => Sys2Proof.Machine.execLdaZpx z s
  | .ldaAbs w => Sys2Proof.Machine.execLdaAbs w s
  | .ldaAbx w => Sys2Proof.Machine.execLdaAbx w s
  | .ldaAby w => Sys2Proof.Machine.execLdaAby w s
  | .ldaIzx z => Sys2Proof.Machine.execLdaIzx z s
  | .ldaIzy z => Sys2Proof.Machine.execLdaIzy z s
  | .ldxImm v => Sys2Proof.Machine.execLdxImm v s
  | .ldxZp z => Sys2Proof.Machine.execLdxZp z s
  | .ldxZpy z => Sys2Proof.Machine.execLdxZpy z s
  | .ldxAbs w => Sys2Proof.Machine.execLdxAbs w s
  | .ldxAby w => Sys2Proof.Machine.execLdxAby w s
  | .ldyImm v => Sys2Proof.Machine.execLdyImm v s
  | .ldyZp z => Sys2Proof.Machine.execLdyZp z s
  | .ldyZpx z => Sys2Proof.Machine.execLdyZpx z s
  | .ldyAbs w => Sys2Proof.Machine.execLdyAbs w s
  | .ldyAbx w => Sys2Proof.Machine.execLdyAbx w s
  | .lsrAcc => Sys2Proof.Machine.execLsrAcc s
  | .lsrZp z => Sys2Proof.Machine.execLsrZp z s
  | .lsrZpx z => Sys2Proof.Machine.execLsrZpx z s
  | .lsrAbs w => Sys2Proof.Machine.execLsrAbs w s
  | .lsrAbx w => Sys2Proof.Machine.execLsrAbx w s
  | .nop => Sys2Proof.Machine.execNop s
  | .oraImm v => Sys2Proof.Machine.execOraImm v s
  | .oraZp z => Sys2Proof.Machine.execOraZp z s
  | .oraZpx z => Sys2Proof.Machine.execOraZpx z s
  | .oraAbs w => Sys2Proof.Machine.execOraAbs w s
  | .oraAbx w => Sys2Proof.Machine.execOraAbx w s
  | .oraAby w => Sys2Proof.Machine.execOraAby w s
  | .oraIzx z => Sys2Proof.Machine.execOraIzx z s
  | .oraIzy z => Sys2Proof.Machine.execOraIzy z s
  | .pha => Sys2Proof.Machine.execPha s
  | .php => Sys2Proof.Machine.execPhp s
  | .pla => Sys2Proof.Machine.execPla s
  | .plp => Sys2Proof.Machine.execPlp s
  | .rolAcc => Sys2Proof.Machine.execRolAcc s
  | .rolZp z => Sys2Proof.Machine.execRolZp z s
  | .rolZpx z => Sys2Proof.Machine.execRolZpx z s
  | .rolAbs w => Sys2Proof.Machine.execRolAbs w s
  | .rolAbx w => Sys2Proof.Machine.execRolAbx w s
  | .rorAcc => Sys2Proof.Machine.execRorAcc s
  | .rorZp z => Sys2Proof.Machine.execRorZp z s
  | .rorZpx z => Sys2Proof.Machine.execRorZpx z s
  | .rorAbs w => Sys2Proof.Machine.execRorAbs w s
  | .rorAbx w => Sys2Proof.Machine.execRorAbx w s
  | .rti => Sys2Proof.Machine.execRti s
  | .rts => Sys2Proof.Machine.execRts s
  | .sbcImm v => Sys2Proof.Machine.execSbcImm v s
  | .sbcZp z => Sys2Proof.Machine.execSbcZp z s
  | .sbcZpx z => Sys2Proof.Machine.execSbcZpx z s
  | .sbcAbs w => Sys2Proof.Machine.execSbcAbs w s
  | .sbcAbx w => Sys2Proof.Machine.execSbcAbx w s
  | .sbcAby w => Sys2Proof.Machine.execSbcAby w s
  | .sbcIzx z => Sys2Proof.Machine.execSbcIzx z s
  | .sbcIzy z => Sys2Proof.Machine.execSbcIzy z s
  | .sec => Sys2Proof.Machine.execSec s
  | .sed => Sys2Proof.Machine.execSed s
  | .sei => Sys2Proof.Machine.execSei s
  | .staZp z => Sys2Proof.Machine.execStaZp z s
  | .staZpx z => Sys2Proof.Machine.execStaZpx z s
  | .staAbs w => Sys2Proof.Machine.execStaAbs w s
  | .staAbx w => Sys2Proof.Machine.execStaAbx w s
  | .staAby w => Sys2Proof.Machine.execStaAby w s
  | .staIzx z => Sys2Proof.Machine.execStaIzx z s
  | .staIzy z => Sys2Proof.Machine.execStaIzy z s
  | .stxZp z => Sys2Proof.Machine.execStxZp z s
  | .stxZpy z => Sys2Proof.Machine.execStxZpy z s
  | .stxAbs w => Sys2Proof.Machine.execStxAbs w s
  | .styZp z => Sys2Proof.Machine.execStyZp z s
  | .styZpx z => Sys2Proof.Machine.execStyZpx z s
  | .styAbs w => Sys2Proof.Machine.execStyAbs w s
  | .tax => Sys2Proof.Machine.execTax s
  | .tay => Sys2Proof.Machine.execTay s
  | .tsx => Sys2Proof.Machine.execTsx s
  | .txa => Sys2Proof.Machine.execTxa s
  | .txs => Sys2Proof.Machine.execTxs s
  | .tya => Sys2Proof.Machine.execTya s

end Sys2Proof.Machine
end

