-- ==== Sys2Proof/WellFormed.lean ====
section
/-! DEFINITION. Which terms are instructions. R90: "not every (operation, mode) combination that seems plausible is
actually assigned a byte". `assigned` restates, per mnemonic, the mode lists of files 41 to 45 (the opcode map R86 is
written once more, as bytes, in Decode.lean; Laws/Decode.lean proves that the two agree). Operand bytes need no check:
"every value of every operand byte is legal" (R89). -/

namespace Sys2Proof

/-- The eight-mode group of R140, which LDA (R121) has too. -/
def eightModes : List Mode :=
  [.immediate, .zeroPage, .zeroPageIndexedX, .absolute, .absoluteIndexedX, .absoluteIndexedY, .indirectPreIndexedX,
    .indirectPostIndexedY]

/-- The modes of each operation, from the "Modes:" line of its rule. -/
def Op.modes : Op → List Mode
  | .lda | .adc | .sbc | .and | .ora | .eor | .cmp => eightModes
  | .ldx => [.immediate, .zeroPage, .zeroPageIndexedY, .absolute, .absoluteIndexedY]
  | .ldy => [.immediate, .zeroPage, .zeroPageIndexedX, .absolute, .absoluteIndexedX]
  | .sta =>
    [.zeroPage, .zeroPageIndexedX, .absolute, .absoluteIndexedX, .absoluteIndexedY, .indirectPreIndexedX,
      .indirectPostIndexedY]
  | .stx => [.zeroPage, .zeroPageIndexedY, .absolute]
  | .sty => [.zeroPage, .zeroPageIndexedX, .absolute]
  | .bit => [.zeroPage, .absolute]
  | .cpx | .cpy => [.immediate, .zeroPage, .absolute]
  | .inc | .dec => [.zeroPage, .zeroPageIndexedX, .absolute, .absoluteIndexedX]
  | .asl | .lsr | .rol | .ror => [.accumulator, .zeroPage, .zeroPageIndexedX, .absolute, .absoluteIndexedX]
  | .bcc | .bcs | .beq | .bmi | .bne | .bpl | .bvc | .bvs => [.relative]
  | .jmp => [.absolute, .indirect]
  | .jsr => [.absolute]
  | .brk | .clc | .cld | .cli | .clv | .dex | .dey | .inx | .iny | .nop | .pha | .php | .pla | .plp | .rti | .rts
  | .sec | .sed | .sei | .tax | .tay | .tsx | .txa | .txs | .tya => [.implied]

/-- A pair of an operation and a mode that the instruction set has (R90). -/
def assigned (op : Op) (m : Mode) : Bool := op.modes.contains m

/-- An instruction term is well formed when its operation has its mode. No constructor of `Instr` breaks this
(`Instr.wellFormed_all` in Laws/Decode.lean); a pair that does is refused by `assigned`. -/
def Instr.wellFormed (i : Instr) : Bool := assigned i.op i.mode

end Sys2Proof
end

