-- ==== Sys2Proof/Decode.lean ====
section
/-! DEFINITION. The Opcode Table / Decoder block (30_encoding.md R80 to R92) and the encoder.
A decoded instruction is its bytes in increasing address order; `decode` is total on any byte list and refuses by name. -/

namespace Sys2Proof

open Sys2Proof.Machine (lo hi word zext16 config)

/-- How many operand bytes follow the opcode, a function of the mode alone (R80, R81). -/
def Mode.operandBytes : Mode → Nat
  | .implied | .accumulator => 0
  | .immediate | .zeroPage | .zeroPageIndexedX | .zeroPageIndexedY | .indirectPreIndexedX | .indirectPostIndexedY
  | .relative => 1
  | .absolute | .absoluteIndexedX | .absoluteIndexedY | .indirect => 2

/-- The length of an instruction in bytes (R80). -/
def Mode.length (m : Mode) : Nat := m.operandBytes + 1

/-- One row of the opcode map R86: the byte, the pair it decodes to, and the instruction it makes of its operand (one
operand byte comes zero-extended, two come as `hi8:lo8`, R82). -/
structure OpcodeRow where
  opcode : Byte
  op : Op
  mode : Mode
  make : Word → Instr

/-- R86, ADC to BIT. -/
def rowsAdcToBit : List OpcodeRow :=
  [⟨0x69, .adc, .immediate, fun w => .adcImm (lo w)⟩,
   ⟨0x65, .adc, .zeroPage, fun w => .adcZp (lo w)⟩,
   ⟨0x75, .adc, .zeroPageIndexedX, fun w => .adcZpx (lo w)⟩,
   ⟨0x6D, .adc, .absolute, fun w => .adcAbs w⟩,
   ⟨0x7D, .adc, .absoluteIndexedX, fun w => .adcAbx w⟩,
   ⟨0x79, .adc, .absoluteIndexedY, fun w => .adcAby w⟩,
   ⟨0x61, .adc, .indirectPreIndexedX, fun w => .adcIzx (lo w)⟩,
   ⟨0x71, .adc, .indirectPostIndexedY, fun w => .adcIzy (lo w)⟩,
   ⟨0x29, .and, .immediate, fun w => .andImm (lo w)⟩,
   ⟨0x25, .and, .zeroPage, fun w => .andZp (lo w)⟩,
   ⟨0x35, .and, .zeroPageIndexedX, fun w => .andZpx (lo w)⟩,
   ⟨0x2D, .and, .absolute, fun w => .andAbs w⟩,
   ⟨0x3D, .and, .absoluteIndexedX, fun w => .andAbx w⟩,
   ⟨0x39, .and, .absoluteIndexedY, fun w => .andAby w⟩,
   ⟨0x21, .and, .indirectPreIndexedX, fun w => .andIzx (lo w)⟩,
   ⟨0x31, .and, .indirectPostIndexedY, fun w => .andIzy (lo w)⟩,
   ⟨0x0A, .asl, .accumulator, fun _ => .aslAcc⟩,
   ⟨0x06, .asl, .zeroPage, fun w => .aslZp (lo w)⟩,
   ⟨0x16, .asl, .zeroPageIndexedX, fun w => .aslZpx (lo w)⟩,
   ⟨0x0E, .asl, .absolute, fun w => .aslAbs w⟩,
   ⟨0x1E, .asl, .absoluteIndexedX, fun w => .aslAbx w⟩,
   ⟨0x90, .bcc, .relative, fun w => .bcc (lo w)⟩,
   ⟨0xB0, .bcs, .relative, fun w => .bcs (lo w)⟩,
   ⟨0xF0, .beq, .relative, fun w => .beq (lo w)⟩,
   ⟨0x24, .bit, .zeroPage, fun w => .bitZp (lo w)⟩,
   ⟨0x2C, .bit, .absolute, fun w => .bitAbs w⟩]

/-- R86, BMI to CLC. -/
def rowsBmiToClc : List OpcodeRow :=
  [⟨0x30, .bmi, .relative, fun w => .bmi (lo w)⟩,
   ⟨0xD0, .bne, .relative, fun w => .bne (lo w)⟩,
   ⟨0x10, .bpl, .relative, fun w => .bpl (lo w)⟩,
   ⟨0x00, .brk, .implied, fun _ => .brk⟩,
   ⟨0x50, .bvc, .relative, fun w => .bvc (lo w)⟩,
   ⟨0x70, .bvs, .relative, fun w => .bvs (lo w)⟩,
   ⟨0x18, .clc, .implied, fun _ => .clc⟩]

/-- R86, CLD to DEC. -/
def rowsCldToDec : List OpcodeRow :=
  [⟨0xD8, .cld, .implied, fun _ => .cld⟩,
   ⟨0x58, .cli, .implied, fun _ => .cli⟩,
   ⟨0xB8, .clv, .implied, fun _ => .clv⟩,
   ⟨0xC9, .cmp, .immediate, fun w => .cmpImm (lo w)⟩,
   ⟨0xC5, .cmp, .zeroPage, fun w => .cmpZp (lo w)⟩,
   ⟨0xD5, .cmp, .zeroPageIndexedX, fun w => .cmpZpx (lo w)⟩,
   ⟨0xCD, .cmp, .absolute, fun w => .cmpAbs w⟩,
   ⟨0xDD, .cmp, .absoluteIndexedX, fun w => .cmpAbx w⟩,
   ⟨0xD9, .cmp, .absoluteIndexedY, fun w => .cmpAby w⟩,
   ⟨0xC1, .cmp, .indirectPreIndexedX, fun w => .cmpIzx (lo w)⟩,
   ⟨0xD1, .cmp, .indirectPostIndexedY, fun w => .cmpIzy (lo w)⟩,
   ⟨0xE0, .cpx, .immediate, fun w => .cpxImm (lo w)⟩,
   ⟨0xE4, .cpx, .zeroPage, fun w => .cpxZp (lo w)⟩,
   ⟨0xEC, .cpx, .absolute, fun w => .cpxAbs w⟩,
   ⟨0xC0, .cpy, .immediate, fun w => .cpyImm (lo w)⟩,
   ⟨0xC4, .cpy, .zeroPage, fun w => .cpyZp (lo w)⟩,
   ⟨0xCC, .cpy, .absolute, fun w => .cpyAbs w⟩,
   ⟨0xC6, .dec, .zeroPage, fun w => .decZp (lo w)⟩,
   ⟨0xD6, .dec, .zeroPageIndexedX, fun w => .decZpx (lo w)⟩,
   ⟨0xCE, .dec, .absolute, fun w => .decAbs w⟩,
   ⟨0xDE, .dec, .absoluteIndexedX, fun w => .decAbx w⟩]

/-- R86, DEX to JMP. -/
def rowsDexToJmp : List OpcodeRow :=
  [⟨0xCA, .dex, .implied, fun _ => .dex⟩,
   ⟨0x88, .dey, .implied, fun _ => .dey⟩,
   ⟨0x49, .eor, .immediate, fun w => .eorImm (lo w)⟩,
   ⟨0x45, .eor, .zeroPage, fun w => .eorZp (lo w)⟩,
   ⟨0x55, .eor, .zeroPageIndexedX, fun w => .eorZpx (lo w)⟩,
   ⟨0x4D, .eor, .absolute, fun w => .eorAbs w⟩,
   ⟨0x5D, .eor, .absoluteIndexedX, fun w => .eorAbx w⟩,
   ⟨0x59, .eor, .absoluteIndexedY, fun w => .eorAby w⟩,
   ⟨0x41, .eor, .indirectPreIndexedX, fun w => .eorIzx (lo w)⟩,
   ⟨0x51, .eor, .indirectPostIndexedY, fun w => .eorIzy (lo w)⟩,
   ⟨0xE6, .inc, .zeroPage, fun w => .incZp (lo w)⟩,
   ⟨0xF6, .inc, .zeroPageIndexedX, fun w => .incZpx (lo w)⟩,
   ⟨0xEE, .inc, .absolute, fun w => .incAbs w⟩,
   ⟨0xFE, .inc, .absoluteIndexedX, fun w => .incAbx w⟩,
   ⟨0xE8, .inx, .implied, fun _ => .inx⟩,
   ⟨0xC8, .iny, .implied, fun _ => .iny⟩,
   ⟨0x4C, .jmp, .absolute, fun w => .jmpAbs w⟩,
   ⟨0x6C, .jmp, .indirect, fun w => .jmpInd w⟩]

/-- R86, JSR to ORA. -/
def rowsJsrToOra : List OpcodeRow :=
  [⟨0x20, .jsr, .absolute, fun w => .jsr w⟩,
   ⟨0xA9, .lda, .immediate, fun w => .ldaImm (lo w)⟩,
   ⟨0xA5, .lda, .zeroPage, fun w => .ldaZp (lo w)⟩,
   ⟨0xB5, .lda, .zeroPageIndexedX, fun w => .ldaZpx (lo w)⟩,
   ⟨0xAD, .lda, .absolute, fun w => .ldaAbs w⟩,
   ⟨0xBD, .lda, .absoluteIndexedX, fun w => .ldaAbx w⟩,
   ⟨0xB9, .lda, .absoluteIndexedY, fun w => .ldaAby w⟩,
   ⟨0xA1, .lda, .indirectPreIndexedX, fun w => .ldaIzx (lo w)⟩,
   ⟨0xB1, .lda, .indirectPostIndexedY, fun w => .ldaIzy (lo w)⟩,
   ⟨0xA2, .ldx, .immediate, fun w => .ldxImm (lo w)⟩,
   ⟨0xA6, .ldx, .zeroPage, fun w => .ldxZp (lo w)⟩,
   ⟨0xB6, .ldx, .zeroPageIndexedY, fun w => .ldxZpy (lo w)⟩,
   ⟨0xAE, .ldx, .absolute, fun w => .ldxAbs w⟩,
   ⟨0xBE, .ldx, .absoluteIndexedY, fun w => .ldxAby w⟩,
   ⟨0xA0, .ldy, .immediate, fun w => .ldyImm (lo w)⟩,
   ⟨0xA4, .ldy, .zeroPage, fun w => .ldyZp (lo w)⟩,
   ⟨0xB4, .ldy, .zeroPageIndexedX, fun w => .ldyZpx (lo w)⟩,
   ⟨0xAC, .ldy, .absolute, fun w => .ldyAbs w⟩,
   ⟨0xBC, .ldy, .absoluteIndexedX, fun w => .ldyAbx w⟩,
   ⟨0x4A, .lsr, .accumulator, fun _ => .lsrAcc⟩,
   ⟨0x46, .lsr, .zeroPage, fun w => .lsrZp (lo w)⟩,
   ⟨0x56, .lsr, .zeroPageIndexedX, fun w => .lsrZpx (lo w)⟩,
   ⟨0x4E, .lsr, .absolute, fun w => .lsrAbs w⟩,
   ⟨0x5E, .lsr, .absoluteIndexedX, fun w => .lsrAbx w⟩,
   ⟨0xEA, .nop, .implied, fun _ => .nop⟩,
   ⟨0x09, .ora, .immediate, fun w => .oraImm (lo w)⟩,
   ⟨0x05, .ora, .zeroPage, fun w => .oraZp (lo w)⟩,
   ⟨0x15, .ora, .zeroPageIndexedX, fun w => .oraZpx (lo w)⟩,
   ⟨0x0D, .ora, .absolute, fun w => .oraAbs w⟩,
   ⟨0x1D, .ora, .absoluteIndexedX, fun w => .oraAbx w⟩,
   ⟨0x19, .ora, .absoluteIndexedY, fun w => .oraAby w⟩,
   ⟨0x01, .ora, .indirectPreIndexedX, fun w => .oraIzx (lo w)⟩,
   ⟨0x11, .ora, .indirectPostIndexedY, fun w => .oraIzy (lo w)⟩]

/-- R86, PHA to RTI. -/
def rowsPhaToRti : List OpcodeRow :=
  [⟨0x48, .pha, .implied, fun _ => .pha⟩,
   ⟨0x08, .php, .implied, fun _ => .php⟩,
   ⟨0x68, .pla, .implied, fun _ => .pla⟩,
   ⟨0x28, .plp, .implied, fun _ => .plp⟩,
   ⟨0x2A, .rol, .accumulator, fun _ => .rolAcc⟩,
   ⟨0x26, .rol, .zeroPage, fun w => .rolZp (lo w)⟩,
   ⟨0x36, .rol, .zeroPageIndexedX, fun w => .rolZpx (lo w)⟩,
   ⟨0x2E, .rol, .absolute, fun w => .rolAbs w⟩,
   ⟨0x3E, .rol, .absoluteIndexedX, fun w => .rolAbx w⟩,
   ⟨0x6A, .ror, .accumulator, fun _ => .rorAcc⟩,
   ⟨0x66, .ror, .zeroPage, fun w => .rorZp (lo w)⟩,
   ⟨0x76, .ror, .zeroPageIndexedX, fun w => .rorZpx (lo w)⟩,
   ⟨0x6E, .ror, .absolute, fun w => .rorAbs w⟩,
   ⟨0x7E, .ror, .absoluteIndexedX, fun w => .rorAbx w⟩,
   ⟨0x40, .rti, .implied, fun _ => .rti⟩]

/-- R86, RTS to STX. -/
def rowsRtsToStx : List OpcodeRow :=
  [⟨0x60, .rts, .implied, fun _ => .rts⟩,
   ⟨0xE9, .sbc, .immediate, fun w => .sbcImm (lo w)⟩,
   ⟨0xE5, .sbc, .zeroPage, fun w => .sbcZp (lo w)⟩,
   ⟨0xF5, .sbc, .zeroPageIndexedX, fun w => .sbcZpx (lo w)⟩,
   ⟨0xED, .sbc, .absolute, fun w => .sbcAbs w⟩,
   ⟨0xFD, .sbc, .absoluteIndexedX, fun w => .sbcAbx w⟩,
   ⟨0xF9, .sbc, .absoluteIndexedY, fun w => .sbcAby w⟩,
   ⟨0xE1, .sbc, .indirectPreIndexedX, fun w => .sbcIzx (lo w)⟩,
   ⟨0xF1, .sbc, .indirectPostIndexedY, fun w => .sbcIzy (lo w)⟩,
   ⟨0x38, .sec, .implied, fun _ => .sec⟩,
   ⟨0xF8, .sed, .implied, fun _ => .sed⟩,
   ⟨0x78, .sei, .implied, fun _ => .sei⟩,
   ⟨0x85, .sta, .zeroPage, fun w => .staZp (lo w)⟩,
   ⟨0x95, .sta, .zeroPageIndexedX, fun w => .staZpx (lo w)⟩,
   ⟨0x8D, .sta, .absolute, fun w => .staAbs w⟩,
   ⟨0x9D, .sta, .absoluteIndexedX, fun w => .staAbx w⟩,
   ⟨0x99, .sta, .absoluteIndexedY, fun w => .staAby w⟩,
   ⟨0x81, .sta, .indirectPreIndexedX, fun w => .staIzx (lo w)⟩,
   ⟨0x91, .sta, .indirectPostIndexedY, fun w => .staIzy (lo w)⟩,
   ⟨0x86, .stx, .zeroPage, fun w => .stxZp (lo w)⟩,
   ⟨0x96, .stx, .zeroPageIndexedY, fun w => .stxZpy (lo w)⟩,
   ⟨0x8E, .stx, .absolute, fun w => .stxAbs w⟩]

/-- R86, STY to TYA. -/
def rowsStyToTya : List OpcodeRow :=
  [⟨0x84, .sty, .zeroPage, fun w => .styZp (lo w)⟩,
   ⟨0x94, .sty, .zeroPageIndexedX, fun w => .styZpx (lo w)⟩,
   ⟨0x8C, .sty, .absolute, fun w => .styAbs w⟩,
   ⟨0xAA, .tax, .implied, fun _ => .tax⟩,
   ⟨0xA8, .tay, .implied, fun _ => .tay⟩,
   ⟨0xBA, .tsx, .implied, fun _ => .tsx⟩,
   ⟨0x8A, .txa, .implied, fun _ => .txa⟩,
   ⟨0x9A, .txs, .implied, fun _ => .txs⟩,
   ⟨0x98, .tya, .implied, fun _ => .tya⟩]

/-- The opcode map: one row per legal opcode byte, 151 rows (R86). -/
def opcodeMap : List OpcodeRow :=
  rowsAdcToBit ++ rowsBmiToClc ++ rowsCldToDec ++ rowsDexToJmp ++
    rowsJsrToOra ++ rowsPhaToRti ++ rowsRtsToStx ++ rowsStyToTya

/-- The row of an (operation, mode) pair; none where the pair is assigned no byte (R90). -/
def rowOfPair (op : Op) (m : Mode) : Option OpcodeRow :=
  opcodeMap.find? fun r => r.op == op && r.mode == m

/-- The row an opcode byte selects: the legal map first, then `UNOFFICIAL` (R84, R88). -/
def rowOfByte (b : Byte) : Option OpcodeRow :=
  match opcodeMap.find? fun r => r.opcode == b with
  | some r => some r
  | none => (config.unofficial.lookup b).bind fun p => rowOfPair p.1 p.2

/-- R84: `decode(opcode_byte)`, a pair or nothing. -/
def decodeOpcode (b : Byte) : Option (Op × Mode) := (rowOfByte b).map fun r => (r.op, r.mode)

/-- Why a byte list is no instruction. -/
inductive DecodeError where
  /-- No bytes at all. -/
  | empty
  /-- The first byte has no entry (R87); the step turns it into `Fault.illegalOpcode`. -/
  | illegalOpcode (b : Byte)
  /-- The opcode's operand bytes are not all there; the step never asks this, it fetches them first. -/
  | truncated (b : Byte)
  deriving DecidableEq, Repr

/-- Reads one instruction off the front of a byte list and returns the bytes after it (R80 to R82). -/
def decode : List Byte → Except DecodeError (Instr × List Byte)
  | [] => .error .empty
  | b :: rest =>
    match rowOfByte b with
    | none => .error (.illegalOpcode b)
    | some r =>
      match r.mode.operandBytes, rest with
      | 0, rest => .ok (r.make 0, rest)
      | 1, x :: rest => .ok (r.make (zext16 x), rest)
      | 2, x :: y :: rest => .ok (r.make (word y x), rest)
      | _, _ => .error (.truncated b)

/-- The opcode byte of each instruction (R86). -/
def Instr.opcode : Instr → Byte
  | .adcImm _ => 0x69
  | .adcZp _ => 0x65
  | .adcZpx _ => 0x75
  | .adcAbs _ => 0x6D
  | .adcAbx _ => 0x7D
  | .adcAby _ => 0x79
  | .adcIzx _ => 0x61
  | .adcIzy _ => 0x71
  | .andImm _ => 0x29
  | .andZp _ => 0x25
  | .andZpx _ => 0x35
  | .andAbs _ => 0x2D
  | .andAbx _ => 0x3D
  | .andAby _ => 0x39
  | .andIzx _ => 0x21
  | .andIzy _ => 0x31
  | .aslAcc => 0x0A
  | .aslZp _ => 0x06
  | .aslZpx _ => 0x16
  | .aslAbs _ => 0x0E
  | .aslAbx _ => 0x1E
  | .bcc _ => 0x90
  | .bcs _ => 0xB0
  | .beq _ => 0xF0
  | .bitZp _ => 0x24
  | .bitAbs _ => 0x2C
  | .bmi _ => 0x30
  | .bne _ => 0xD0
  | .bpl _ => 0x10
  | .brk => 0x00
  | .bvc _ => 0x50
  | .bvs _ => 0x70
  | .clc => 0x18
  | .cld => 0xD8
  | .cli => 0x58
  | .clv => 0xB8
  | .cmpImm _ => 0xC9
  | .cmpZp _ => 0xC5
  | .cmpZpx _ => 0xD5
  | .cmpAbs _ => 0xCD
  | .cmpAbx _ => 0xDD
  | .cmpAby _ => 0xD9
  | .cmpIzx _ => 0xC1
  | .cmpIzy _ => 0xD1
  | .cpxImm _ => 0xE0
  | .cpxZp _ => 0xE4
  | .cpxAbs _ => 0xEC
  | .cpyImm _ => 0xC0
  | .cpyZp _ => 0xC4
  | .cpyAbs _ => 0xCC
  | .decZp _ => 0xC6
  | .decZpx _ => 0xD6
  | .decAbs _ => 0xCE
  | .decAbx _ => 0xDE
  | .dex => 0xCA
  | .dey => 0x88
  | .eorImm _ => 0x49
  | .eorZp _ => 0x45
  | .eorZpx _ => 0x55
  | .eorAbs _ => 0x4D
  | .eorAbx _ => 0x5D
  | .eorAby _ => 0x59
  | .eorIzx _ => 0x41
  | .eorIzy _ => 0x51
  | .incZp _ => 0xE6
  | .incZpx _ => 0xF6
  | .incAbs _ => 0xEE
  | .incAbx _ => 0xFE
  | .inx => 0xE8
  | .iny => 0xC8
  | .jmpAbs _ => 0x4C
  | .jmpInd _ => 0x6C
  | .jsr _ => 0x20
  | .ldaImm _ => 0xA9
  | .ldaZp _ => 0xA5
  | .ldaZpx _ => 0xB5
  | .ldaAbs _ => 0xAD
  | .ldaAbx _ => 0xBD
  | .ldaAby _ => 0xB9
  | .ldaIzx _ => 0xA1
  | .ldaIzy _ => 0xB1
  | .ldxImm _ => 0xA2
  | .ldxZp _ => 0xA6
  | .ldxZpy _ => 0xB6
  | .ldxAbs _ => 0xAE
  | .ldxAby _ => 0xBE
  | .ldyImm _ => 0xA0
  | .ldyZp _ => 0xA4
  | .ldyZpx _ => 0xB4
  | .ldyAbs _ => 0xAC
  | .ldyAbx _ => 0xBC
  | .lsrAcc => 0x4A
  | .lsrZp _ => 0x46
  | .lsrZpx _ => 0x56
  | .lsrAbs _ => 0x4E
  | .lsrAbx _ => 0x5E
  | .nop => 0xEA
  | .oraImm _ => 0x09
  | .oraZp _ => 0x05
  | .oraZpx _ => 0x15
  | .oraAbs _ => 0x0D
  | .oraAbx _ => 0x1D
  | .oraAby _ => 0x19
  | .oraIzx _ => 0x01
  | .oraIzy _ => 0x11
  | .pha => 0x48
  | .php => 0x08
  | .pla => 0x68
  | .plp => 0x28
  | .rolAcc => 0x2A
  | .rolZp _ => 0x26
  | .rolZpx _ => 0x36
  | .rolAbs _ => 0x2E
  | .rolAbx _ => 0x3E
  | .rorAcc => 0x6A
  | .rorZp _ => 0x66
  | .rorZpx _ => 0x76
  | .rorAbs _ => 0x6E
  | .rorAbx _ => 0x7E
  | .rti => 0x40
  | .rts => 0x60
  | .sbcImm _ => 0xE9
  | .sbcZp _ => 0xE5
  | .sbcZpx _ => 0xF5
  | .sbcAbs _ => 0xED
  | .sbcAbx _ => 0xFD
  | .sbcAby _ => 0xF9
  | .sbcIzx _ => 0xE1
  | .sbcIzy _ => 0xF1
  | .sec => 0x38
  | .sed => 0xF8
  | .sei => 0x78
  | .staZp _ => 0x85
  | .staZpx _ => 0x95
  | .staAbs _ => 0x8D
  | .staAbx _ => 0x9D
  | .staAby _ => 0x99
  | .staIzx _ => 0x81
  | .staIzy _ => 0x91
  | .stxZp _ => 0x86
  | .stxZpy _ => 0x96
  | .stxAbs _ => 0x8E
  | .styZp _ => 0x84
  | .styZpx _ => 0x94
  | .styAbs _ => 0x8C
  | .tax => 0xAA
  | .tay => 0xA8
  | .tsx => 0xBA
  | .txa => 0x8A
  | .txs => 0x9A
  | .tya => 0x98

/-- The operand bytes in increasing address order, low byte first (R81, R82). -/
def Operand.bytes : Operand → List Byte
  | .implied | .accumulator => []
  | .immediate b | .zeroPage b | .zeroPageIndexedX b | .zeroPageIndexedY b | .indirectPreIndexedX b
  | .indirectPostIndexedY b | .relative b => [b]
  | .absolute w | .absoluteIndexedX w | .absoluteIndexedY w | .indirect w => [lo w, hi w]

/-- The bytes of an instruction (R80, R81). -/
def encode (i : Instr) : List Byte := i.opcode :: i.operand.bytes

/-- The three bytes of an instruction whose bits are `w`, numbered as spec/opcode_table.json numbers them: bit 0 is
the least significant bit of the opcode byte, byte `k` is bits `8k + 7` to `8k`; every bit from `nbits` up is 0. -/
def tableBytes (nbits w : Nat) : List Byte :=
  let v := w % 2 ^ nbits
  [BitVec.ofNat 8 v, BitVec.ofNat 8 (v / 2 ^ 8), BitVec.ofNat 8 (v / 2 ^ 16)]

/-- The instruction the decoder reads from an instruction given by its bits. -/
def decodeTableWord (nbits w : Nat) : Option Instr :=
  match decode (tableBytes nbits w) with
  | .ok (i, _) => some i
  | .error _ => none

end Sys2Proof
end

