-- ==== Sys2Proof/Machine/Fetch.lean ====
section
/-! DEFINITION. What the step does around an instruction: the interrupt check (60_exceptions.md R220, R226, R229), the
fetch of an instruction's bytes (R220 (2) to (4), 40_addressing_modes.md R100) and the illegal-opcode signal (R221);
and how a program's instruction is placed in the machine. -/

namespace Sys2Proof.Machine

/-- The interrupt check at the head of a step: NMI before IRQ, `I` masks IRQ only; the latch of the serviced kind is
cleared and the entry made (R220 (1), R226 to R229). None when nothing is serviceable. -/
def serviceInterrupt (s : State) : Option State :=
  if s.nmiPending then some (enterInterrupt false config.vecNmi { s with nmiPending := false })
  else if s.irqPending && !s.flags.i then
    some (enterInterrupt false config.vecIrq { s with irqPending := false })
  else none

/-- The fetch and decode of one instruction: the opcode byte, then the operand bytes of its mode, each through the bus
(R62, R65). No operand byte is fetched after an illegal opcode (R221). -/
def fetchInstr (s : State) : Except DecodeError Instr × State :=
  let op := fetch8 s
  match (rowOfByte op.1).map fun r => r.mode.operandBytes with
  | none => (.error (.illegalOpcode op.1), op.2)
  | some 0 => ((decode [op.1]).map Prod.fst, op.2)
  | some 1 =>
    let x := fetch8 op.2
    ((decode [op.1, x.1]).map Prod.fst, x.2)
  | some _ =>
    let x := fetch8 op.2
    let y := fetch8 x.2
    ((decode [op.1, x.1, y.1]).map Prod.fst, y.2)

/-- The signal of a step whose fetch gave no instruction (R221). Only `illegalOpcode` arises: the fetch hands `decode`
all the bytes its opcode asks for (`fetchInstr_error` in Laws/Step.lean). -/
def fetchFault (e : DecodeError) (at_ : Word) (left : State) : Fault :=
  match e with
  | .illegalOpcode op => .illegalOpcode op at_ left
  | .truncated op => .illegalOpcode op at_ left
  | .empty => .illegalOpcode 0 at_ left

/-- Puts a byte where the bus would read it, whatever the region holds: the host's load of a program, no bus access.
The device window holds no bytes. -/
def poke (addr : Word) (v : Byte) (s : State) : State :=
  match region s addr with
  | .ram cell => { s with ram := s.ram.write cell v }
  | .device _ => s
  | .prg index => { s with prg := s.prg.write index v }

/-- The address is in the device window. -/
def inDevice (s : State) (addr : Word) : Bool :=
  match region s addr with
  | .device _ => true
  | _ => false

/-- Makes the very next step fetch and run the instruction whose table bits are `w` (log 3): `reset()` counts as applied,
no interrupt is serviceable, `PC` leaves the device window (whose bytes nobody can place), and the three bytes stand at
`PC`, `PC + 1`, `PC + 2`. Everything else is as in `s`. -/
def placeInstr (s : State) (nbits w : Nat) : State :=
  let pc := if inDevice s s.pc || inDevice s (s.pc + 1) || inDevice s (s.pc + 2) then 0x0000 else s.pc
  let t := { s with ready := true, nmiPending := false, irqPending := s.irqPending && s.flags.i, pc := pc }
  match tableBytes nbits w with
  | [b0, b1, b2] => poke (pc + 2) b2 (poke (pc + 1) b1 (poke pc b0 t))
  | _ => t

end Sys2Proof.Machine
end

