-- ==== Sys2Proof/Machine/Step.lean ====
section
/-! DEFINITION. `step()`, the only transition of the core (60_exceptions.md R220). -/

namespace Sys2Proof.Machine

/-- R220: service one pending interrupt, or fetch, decode, resolve and execute one instruction. Refused before the first
`reset()` (R250); the illegal-opcode signal is a fault (R221). -/
def step (s : State) : Host.Outcome State Fault Refusal :=
  if s.ready then
    match serviceInterrupt s with
    | some t => .next t
    | none =>
      match fetchInstr s with
      | (.ok i, t) => exec i t
      | (.error e, t) => .fault (fetchFault e s.pc t)
  else .refused .neverReset

/-- The host's placing of an instruction, `placeInstr` of Machine/Fetch.lean. -/
def State.withFetchWord (s : State) (nbits w : Nat) : State := placeInstr s nbits w

end Sys2Proof.Machine
end

