-- ==== Sys2Proof/Machine/HostMoves.lean ====
section
/-! DEFINITION. What the host may do between two steps (70_reset_and_hazards.md R250, R251, R256; 20_memory.md R51, R52;
60_exceptions.md R225). A move whose precondition fails is refused by name and changes nothing. -/

namespace Sys2Proof.Machine

/-- Power-on (R250 (1)) with the RAM contents `INIT_RAM`, about which nothing may be assumed (D26): the core before
`install_program_banks` and `reset()`. The registers hold 0 until `reset()` loads them; no step runs before that. -/
def State.powerOn (initRam : List Byte) : State where
  a := 0
  x := 0
  y := 0
  sp := 0
  pc := 0
  flags := { c := false, z := false, i := false, d := false, b := false, v := false, n := false }
  nmiPending := false
  irqPending := false
  bankSel := 0
  bankCount := 0
  ram := Memory.ofBytes 0 (initRam.take config.ramSize)
  prg := []
  cyc := 0
  devLog := []
  ready := false

/-- `install_program_banks(bank_count, bytes)` (R52, D31), before the first `reset()` only (R256). -/
def State.installBanks (count : Nat) (bytes : List Byte) (s : State) : Result :=
  if s.ready then .refused .installAfterReset
  else if count ≥ 1 ∧ bytes.length = count * config.bankSize then
    .next { s with bankCount := count, prg := Memory.ofBytes 0 bytes, bankSel := 0 }
  else .refused .badInstall

/-- `reset()` (R251): the registers and flags to their reset values, both latches clear, `PC` from the reset vector, low
byte then high byte; RAM, `BANKSEL`, the program data and `CYC` as they were. It needs a program (R256). -/
def State.resetMove (s : State) : Result :=
  if s.bankCount = 0 then .refused .noProgram
  else
    let t := { s with
      a := 0
      x := 0
      y := 0
      sp := config.resetSp
      flags := config.resetFlags
      nmiPending := false
      irqPending := false
      ready := true }
    let v := readWord config.vecReset (config.vecReset + 1) t
    .next { v.2 with pc := v.1 }

/-- `request_interrupt(kind)`: sets the latch; requests are not counted (R225). -/
def State.requestInterrupt (kind : InterruptKind) (s : State) : State :=
  match kind with
  | .nmi => { s with nmiPending := true }
  | .irq => { s with irqPending := true }

/-- `select_bank(index)` (R51): accepted for every valid index, visible only with more than two banks (C7). -/
def State.selectBank (index : Nat) (s : State) : Result :=
  if index < s.bankCount then .next { s with bankSel := index } else .refused (.badBankIndex index)

end Sys2Proof.Machine
end

