-- ==== Sys2Proof/Safety.lean ====
section
/-! DEFINITION. The words the claims are stated in: when a step completes, the invariant of a legal state, which
addresses name one byte, and the spec's summary of the cycle counts (70_reset_and_hazards.md R262, R263). -/

namespace Sys2Proof.Machine

/-- The step, meaning or host move completed: it answered a next state, no fault and no refusal. -/
def completes (r : Result) : Prop := ∃ t, r = .next t

/-- A legal state: both memories are in canonical form and inside their arrays (R27, R52), at least one bank is installed
(R52) and `BANKSEL` names one (R26). -/
abbrev State.Inv (s : State) : Prop :=
  s.ram.wf config.ramSize = true ∧ s.prg.wf (s.bankCount * config.bankSize) = true ∧ 1 ≤ s.bankCount
    ∧ s.bankSel < s.bankCount

/-- No interrupt is serviceable at the head of the step (R220 (1), R226). -/
abbrev State.quiet (s : State) : Prop := s.nmiPending = false ∧ (s.irqPending = false ∨ s.flags.i = true)

/-- The two addresses name the same byte of RAM (R45: the four mirror addresses of one byte). -/
abbrev sameRamByte (a b : Word) : Prop :=
  ramWindow a ∧ ramWindow b ∧ a.toNat % config.ramSize = b.toNat % config.ramSize

/-- The bytes the bus would read from `addr` on, as many as asked for, where none of them is in the device window. -/
def State.peekBytes (s : State) (addr : Word) : Nat → Option (List Byte)
  | 0 => some []
  | k + 1 => do
    let b ← s.peek addr
    let bs ← State.peekBytes s (addr + 1) k
    return b :: bs

/-- The modes and opcode bytes of an operation, in the order of R86. -/
def rowsOf (op : Op) : List (Mode × Byte) :=
  (opcodeMap.filter fun r => r.op == op).map fun r => (r.mode, r.opcode)

/-- Column "read" of R263, with the page-cross cycle of R262. -/
def readCycles (m : Mode) (crossed : Bool) : Nat :=
  match m with
  | .immediate => 2
  | .zeroPage => 3
  | .zeroPageIndexedX | .zeroPageIndexedY | .absolute => 4
  | .absoluteIndexedX | .absoluteIndexedY => 4 + flagNat crossed
  | .indirectPreIndexedX => 6
  | .indirectPostIndexedY => 5 + flagNat crossed
  | _ => 0

/-- Column "write" of R263; `crossed` is ignored. -/
def writeCycles (m : Mode) : Nat :=
  match m with
  | .zeroPage => 3
  | .zeroPageIndexedX | .zeroPageIndexedY | .absolute => 4
  | .absoluteIndexedX | .absoluteIndexedY => 5
  | .indirectPreIndexedX | .indirectPostIndexedY => 6
  | _ => 0

/-- Column "read-modify-write" of R263; `crossed` is ignored. -/
def modifyCycles (m : Mode) : Nat :=
  match m with
  | .accumulator => 2
  | .zeroPage => 5
  | .zeroPageIndexedX | .absolute => 6
  | .absoluteIndexedX => 7
  | _ => 0

/-- The 105 illegal bytes, as R87 lists them. -/
def illegalBytes : List Byte :=
  [0x02, 0x03, 0x04, 0x07, 0x0B, 0x0C, 0x0F, 0x12, 0x13, 0x14, 0x17, 0x1A, 0x1B, 0x1C, 0x1F,
   0x22, 0x23, 0x27, 0x2B, 0x2F, 0x32, 0x33, 0x34, 0x37, 0x3A, 0x3B, 0x3C, 0x3F, 0x42, 0x43,
   0x44, 0x47, 0x4B, 0x4F, 0x52, 0x53, 0x54, 0x57, 0x5A, 0x5B, 0x5C, 0x5F, 0x62, 0x63, 0x64,
   0x67, 0x6B, 0x6F, 0x72, 0x73, 0x74, 0x77, 0x7A, 0x7B, 0x7C, 0x7F, 0x80, 0x82, 0x83, 0x87,
   0x89, 0x8B, 0x8F, 0x92, 0x93, 0x97, 0x9B, 0x9C, 0x9E, 0x9F, 0xA3, 0xA7, 0xAB, 0xAF, 0xB2,
   0xB3, 0xB7, 0xBB, 0xBF, 0xC2, 0xC3, 0xC7, 0xCB, 0xCF, 0xD2, 0xD3, 0xD4, 0xD7, 0xDA, 0xDB,
   0xDC, 0xDF, 0xE2, 0xE3, 0xE7, 0xEB, 0xEF, 0xF2, 0xF3, 0xF4, 0xF7, 0xFA, 0xFB, 0xFC, 0xFF]

/-- `Fetch8()` `k` times: the next `k` bytes of the instruction stream, from any region, device window included (R65). -/
def fetchBytes : Nat → State → List Byte × State
  | 0, s => ([], s)
  | k + 1, s =>
    let b := fetch8 s
    let bs := fetchBytes k b.2
    (b.1 :: bs.1, bs.2)

/-- The status byte bit by bit, `N V 1 B D I Z C` from bit 7 to bit 0 (R18). -/
def statusByte (f : Flags) : Byte := BitVec.ofBoolListBE [f.n, f.v, true, f.b, f.d, f.i, f.z, f.c]

/-- The byte of the last bank at `off`: what slot 1, the window from 0xC000, always shows (R48, R49). -/
def lastBankByte (s : State) (off : Nat) : Byte := s.prg.read ((s.bankCount - 1) * 16384 + off)

/-- The word of the last bank at `off`, low byte first (R54): the vectors lie at 0x3FFA, 0x3FFC, 0x3FFE (R55). -/
def lastBankWord (s : State) (off : Nat) : Word := word (lastBankByte s (off + 1)) (lastBankByte s off)

/-- RAM after pushing a status byte on top of a pushed counter: `hi`, `lo` and the status at three stack addresses going
down, each taken mod 256 inside the stack region (R20 to R23). -/
def pushedFrame (s : State) (counter : Word) (status : Byte) : Memory :=
  ((s.ram.write (256 + s.sp.toNat) (hi counter)).write (256 + (s.sp - 1).toNat) (lo counter)).write
    (256 + (s.sp - 2).toNat) status

/-- The RAM byte at stack offset `p` (R20). -/
def stackByte (s : State) (p : Byte) : Byte := s.ram.read (256 + p.toNat)

/-- `s` with another value of the Decimal flag. -/
def withDecimal (d : Bool) (s : State) : State := { s with flags := { s.flags with d := d } }

/-- `s` with other interrupt latches and `CYC` moved on by `k`. -/
def withLatches (nmi irq : Bool) (k : Nat) (s : State) : State :=
  { s with nmiPending := nmi, irqPending := irq, cyc := s.cyc + k }

/-- The same outcome with its next state changed by `f`. -/
def mapNext (f : State → State) : Result → Result
  | .next t => .next (f t)
  | .fault e => .fault e
  | .refused r => .refused r

end Sys2Proof.Machine
end

