-- ==== Sys2Proof/Certificates/Slice0/Obligations.lean ====
section
/-! DEFINITION. The statements of this row, from the numbered rules of spec/. In a statement about `exec i s` the state
`s` is the one the fetch leaves: `PC` at the next instruction (R14, log 15). A conclusion `exec i s = .next t` with `t`
written as a record update states the result, the frame (every field not named is unchanged, memory included) and that
the instruction completes, all at once. `devLog`, where a statement names it, is the model's own record of device accesses
(log 5), and the byte a device answers is a free value (log 4): both DESIGN CHOICE, no rule of the spec. -/

open Sys2Proof Sys2Proof.Machine

/-! ## Encoding -/

/-- R80 to R86: the decoder reads back every instruction the encoder writes, with every operand. -/
def Obligations.DecodeOfEncode : Prop :=
  ∀ (i : Instr) (rest : List Byte), decode (encode i ++ rest) = .ok (i, rest)

/-- R80 to R86: what the decoder reads is exactly the bytes it consumed. -/
def Obligations.EncodeOfDecode : Prop :=
  ∀ (bs rest : List Byte) (i : Instr), decode bs = .ok (i, rest) → encode i ++ rest = bs

/-- R86 (ADC 0x69, BRK 0x00 and the words of the last three lines), R91's table and FES §8: words written out from the
spec decode to the instruction they stand for, one per mode and at least one from each of the spec's instruction files 41
to 45. -/
def Obligations.SpecWordsDecode : Prop :=
  decode [0x18] = .ok (.clc, []) ∧ decode [0x0A] = .ok (.aslAcc, []) ∧ decode [0xA9, 0x10] = .ok (.ldaImm 0x10, [])
    ∧ decode [0xA5, 0x10] = .ok (.ldaZp 0x10, []) ∧ decode [0xB5, 0x10] = .ok (.ldaZpx 0x10, [])
    ∧ decode [0xB6, 0x10] = .ok (.ldxZpy 0x10, []) ∧ decode [0xAD, 0x34, 0x12] = .ok (.ldaAbs 0x1234, [])
    ∧ decode [0xBD, 0x34, 0x12] = .ok (.ldaAbx 0x1234, []) ∧ decode [0xB9, 0x34, 0x12] = .ok (.ldaAby 0x1234, [])
    ∧ decode [0x6C, 0x34, 0x12] = .ok (.jmpInd 0x1234, []) ∧ decode [0xA1, 0x10] = .ok (.ldaIzx 0x10, [])
    ∧ decode [0xB1, 0x10] = .ok (.ldaIzy 0x10, []) ∧ decode [0xD0, 0xF9] = .ok (.bne 0xF9, [])
    ∧ decode [0xEA] = .ok (.nop, []) ∧ decode [0x69, 0x50] = .ok (.adcImm 0x50, [])
    ∧ decode [0x00] = .ok (.brk, []) ∧ decode [0x02] = .error (.illegalOpcode 0x02)
    ∧ decode [0x8D, 0x34, 0x12] = .ok (.staAbs 0x1234, []) ∧ decode [0xAA] = .ok (.tax, [])
    ∧ decode [0xC9, 0x40] = .ok (.cmpImm 0x40, []) ∧ decode [0xE6, 0x10] = .ok (.incZp 0x10, [])
    ∧ decode [0x20, 0x10, 0x80] = .ok (.jsr 0x8010, []) ∧ decode [0x48] = .ok (.pha, [])

/-! ## The step -/

/-- R220: where the bytes at `PC` (outside the device window) decode to a well-formed instruction and no interrupt is
serviceable, the step is that instruction's `exec` with `PC` moved past its bytes. -/
def Obligations.StepRunsDecodedInstruction : Prop :=
  ∀ (s : State) (n : Nat) (bs rest : List Byte) (i : Instr), s.ready = true → s.quiet → s.peekBytes s.pc n = some bs →
    decode bs = .ok (i, rest) → i.wellFormed = true →
    step s = exec i { s with pc := s.pc + BitVec.ofNat 16 i.mode.length }

/-- R62 (1), (2) and R65: the step fetches the instruction's bytes one by one through the bus, from any region, the
device window included, and then runs it. -/
def Obligations.StepFetchesThroughTheBus : Prop :=
  ∀ (s : State) (i : Instr), s.ready = true → s.quiet → (fetchBytes i.mode.length s).1 = encode i →
    step s = exec i (fetchBytes i.mode.length s).2

/-- R87, R221: exactly the 105 listed bytes are illegal; fetching one (from any region) ends the step with the signal
`IllegalOpcode(op, at)`, `PC` = `at` + 1 and nothing else of the core changed; and a step has no other fault. -/
def Obligations.IllegalOpcodeIsTheOnlyFault : Prop :=
  (∀ b : Byte, decodeOpcode b = none ↔ b ∈ illegalBytes) ∧
    (∀ s : State, s.ready = true → s.quiet → (memRead s.pc s).1 ∈ illegalBytes →
      step s = .fault (.illegalOpcode (memRead s.pc s).1 s.pc
        { s with pc := s.pc + 1, devLog := (memRead s.pc s).2.devLog })) ∧
    ∀ (s : State) (f : Fault), step s = .fault f →
      ∃ (op : Byte) (left : State), f = .illegalOpcode op s.pc left ∧ op ∈ illegalBytes

/-- R220, R222, R250: a step of a core that was reset completes unless the byte it fetches is illegal; before the first
reset it is refused. -/
def Obligations.StepCompletesUnlessIllegal : Prop :=
  ∀ s : State, (s.ready = false → step s = .refused .neverReset) ∧
    (s.ready = true → (¬ s.quiet ∨ (memRead s.pc s).1 ∉ illegalBytes) → completes (step s))

/-- R220 (1), R226, R227, R229: a pending NMI is serviced before anything else, whatever `I` and the IRQ latch hold. -/
def Obligations.NmiEntry : Prop :=
  ∀ s : State, s.ready = true → s.nmiPending = true →
    step s = .next { s with
      nmiPending := false
      ram := pushedFrame s s.pc (statusByte s.flags)
      sp := s.sp - 3
      flags := { s.flags with i := true }
      pc := lastBankWord s 0x3FFA
      cyc := s.cyc + 7 }

/-- R220 (1), R228: a pending IRQ is serviced when `I` is 0 and no NMI is pending. -/
def Obligations.IrqEntry : Prop :=
  ∀ s : State, s.ready = true → s.nmiPending = false → s.irqPending = true → s.flags.i = false →
    step s = .next { s with
      irqPending := false
      ram := pushedFrame s s.pc (statusByte s.flags)
      sp := s.sp - 3
      flags := { s.flags with i := true }
      pc := lastBankWord s 0x3FFE
      cyc := s.cyc + 7 }

/-- R226: while `I` is 1 a pending IRQ stays pending across every step. -/
def Obligations.MaskedIrqStaysPending : Prop :=
  ∀ s t : State, s.irqPending = true → s.flags.i = true → step s = .next t → t.irqPending = true

/-- R226, R204, R207, R214: an `I` that any instruction leaves at 0 counts at once: an IRQ that is pending then is entered
by the very next step, which pushes the address of the instruction not yet executed. -/
def Obligations.UnmaskedIrqIsTakenNext : Prop :=
  ∀ (i : Instr) (s t : State), s.ready = true → s.nmiPending = false → s.irqPending = true → exec i s = .next t →
    t.flags.i = false →
    step t = .next { t with
      irqPending := false
      ram := pushedFrame t t.pc (statusByte t.flags)
      sp := t.sp - 3
      flags := { t.flags with i := true }
      pc := lastBankWord s 0x3FFE
      cyc := t.cyc + 7 }

/-! ## Invariants and whole-machine rules -/

/-- Every step keeps a state legal: both memories canonical and inside their arrays, at least one bank installed,
`BANKSEL` below `BANK_COUNT`. -/
def Obligations.StepKeepsInvariant : Prop :=
  ∀ s t : State, s.Inv → step s = .next t → t.Inv

/-- The state after reset is legal and ready. Its bank count and blank memories are the model's choice (logs 1, 2). -/
def Obligations.ResetMeetsInvariant : Prop :=
  State.reset.Inv ∧ State.reset.ready = true

/-- Every host move keeps a state legal, and power-on followed by a valid install reaches a legal one. -/
def Obligations.HostMovesKeepInvariant : Prop :=
  (∀ (s t : State) (k : InterruptKind) (n : Nat), s.Inv →
      (s.requestInterrupt k).Inv ∧ (s.resetMove = .next t → t.Inv) ∧ (s.selectBank n = .next t → t.Inv)) ∧
    ∀ (initRam bytes : List Byte) (n : Nat) (t : State), (State.powerOn initRam).installBanks n bytes = .next t → t.Inv

/-- R26, R27, R50: no step changes the program data, the bank count or the bank selection, and a core stays reset. -/
def Obligations.ProgramDataAndBanksAreFixed : Prop :=
  ∀ s t : State, step s = .next t →
    t.prg = s.prg ∧ t.bankCount = s.bankCount ∧ t.bankSel = s.bankSel ∧ t.ready = true

/-- R25, R28: no instruction reads or writes an interrupt latch, and none reads `CYC`. It compares two runs of one
instruction for the same answers of the device: that both get the same byte rests on log 4 (DESIGN CHOICE), by which the
answer depends on the accesses made so far and the offset only. -/
def Obligations.LatchesAndCycAreInert : Prop :=
  ∀ (i : Instr) (s : State) (nmi irq : Bool) (k : Nat),
    exec i (withLatches nmi irq k s) = mapNext (withLatches nmi irq k) (exec i s)

/-- R157 for ADC and SBC, R16 (column "read by" of `D`) for the others: but for the instructions that write or push `D`
(PHP, PLP, BRK, RTI, SED, CLD, whose statements are PushesAndPulls, BrkTakesTheIrqVector, RtiRestoresFlagsAndPc and
FlagInstructionsAndNop), the Decimal flag changes nothing: the same registers, flags, memory and cycles for either value of
`D`. It compares two runs for the same answers of the device: that both get the same byte rests on log 4 (DESIGN CHOICE). -/
def Obligations.DecimalIsInert : Prop :=
  ∀ (i : Instr) (s : State) (d : Bool), i.op ∉ [.php, .plp, .brk, .rti, .sed, .cld] →
    exec i (withDecimal d s) = mapNext (withDecimal d) (exec i s)

/-- R16: an instruction outside a flag's "written by" column leaves that flag unchanged. -/
def Obligations.FlagsHaveOnlyTheirWriters : Prop :=
  ∀ (i : Instr) (s t : State), exec i s = .next t →
    (i.op ∉ [.adc, .sbc, .cmp, .cpx, .cpy, .asl, .lsr, .rol, .ror, .clc, .sec, .plp, .rti] → t.flags.c = s.flags.c) ∧
    (i.op ∉ [.lda, .ldx, .ldy, .tax, .tay, .txa, .tya, .tsx, .pla, .and, .ora, .eor, .adc, .sbc, .inc, .dec, .inx, .iny,
        .dex, .dey, .asl, .lsr, .rol, .ror, .cmp, .cpx, .cpy, .bit, .plp, .rti] →
      t.flags.z = s.flags.z ∧ t.flags.n = s.flags.n) ∧
    (i.op ∉ [.sei, .cli, .brk, .plp, .rti] → t.flags.i = s.flags.i) ∧
    (i.op ∉ [.sed, .cld, .plp, .rti] → t.flags.d = s.flags.d) ∧
    (i.op ∉ [.brk, .plp, .rti] → t.flags.b = s.flags.b) ∧
    (i.op ∉ [.adc, .sbc, .bit, .clv, .plp, .rti] → t.flags.v = s.flags.v)

/-- R11 to R14, R118: which instructions write each register. -/
def Obligations.RegistersHaveOnlyTheirWriters : Prop :=
  ∀ (i : Instr) (s t : State), exec i s = .next t →
    (i.op ∉ [.adc, .sbc, .and, .ora, .eor, .lda, .pla, .txa, .tya] → i.mode ≠ .accumulator → t.a = s.a) ∧
    (i.op ∉ [.ldx, .inx, .dex, .tax, .tsx] → t.x = s.x) ∧
    (i.op ∉ [.ldy, .iny, .dey, .tay] → t.y = s.y) ∧
    (i.op ∉ [.pha, .php, .pla, .plp, .jsr, .rts, .brk, .rti, .txs] → t.sp = s.sp) ∧
    (i.mode ≠ .relative → i.op ∉ [.jmp, .jsr, .rts, .brk, .rti] → t.pc = s.pc)

/-- Frame: an instruction that is no store, no memory read-modify-write and no push leaves every byte of memory. -/
def Obligations.NonStoringFrame : Prop :=
  ∀ (i : Instr) (s t : State), exec i s = .next t →
    (i.op ∉ [.sta, .stx, .sty, .inc, .dec, .asl, .lsr, .rol, .ror, .pha, .php, .jsr, .brk] ∨ i.mode = .accumulator) →
    t.ram = s.ram ∧ ∀ a : Word, t.peek a = s.peek a

/-- Frame: a store or memory read-modify-write changes at most the one RAM byte at its effective address, under any of
that byte's four addresses. -/
def Obligations.StoringFrame : Prop :=
  ∀ (i : Instr) (s t : State), exec i s = .next t → i.op ∈ [.sta, .stx, .sty, .inc, .dec, .asl, .lsr, .rol, .ror] →
    i.mode ≠ .accumulator →
    ∀ a : Word, ¬ sameRamByte a (resolve i.operand s).1.ea → t.peek a = s.peek a

/-- Frame: a push changes only the bytes it stores to: one of PHA and PHP, two of JSR, three of BRK, at the stack
addresses going down from `SP`. -/
def Obligations.PushingFrame : Prop :=
  ∀ (i : Instr) (s t : State) (a : Word), exec i s = .next t → i.op ∈ [.pha, .php, .jsr, .brk] →
    ¬ sameRamByte a (stackAddr s.sp) →
    (i.op ∈ [.jsr, .brk] → ¬ sameRamByte a (stackAddr (s.sp - 1))) →
    (i.op = .brk → ¬ sameRamByte a (stackAddr (s.sp - 2))) → t.peek a = s.peek a

/-! ## Addressing modes -/

/-- R117, S2: zero-page modes give an address in 0x0000 to 0x00FF, and the indexed-indirect modes' pointers depend on no
byte outside zero page. -/
def Obligations.ZeroPageStaysInZeroPage : Prop :=
  (∀ (s : State) (z : Byte), (resolve (.zeroPage z) s).1.ea ≤ 0x00FF ∧ (resolve (.zeroPageIndexedX z) s).1.ea ≤ 0x00FF
    ∧ (resolve (.zeroPageIndexedY z) s).1.ea ≤ 0x00FF) ∧
    ∀ (s t : State) (z : Byte), t.x = s.x → t.y = s.y → (∀ k, k < 256 → t.ram.read k = s.ram.read k) →
      (resolve (.indirectPreIndexedX z) t).1 = (resolve (.indirectPreIndexedX z) s).1 ∧
      (resolve (.indirectPostIndexedY z) t).1 = (resolve (.indirectPostIndexedY z) s).1

/-- R101 to R109, R114: the modes that read no pointer, as integer formulas; `crossed` is 1 exactly when the high byte of
the address differs from that of the base. None makes a bus access. -/
def Obligations.DirectModes : Prop :=
  ∀ (s : State) (v z : Byte) (w : Word),
    resolve .implied s = (.noOperand, s) ∧ resolve .accumulator s = (.noOperand, s) ∧
    resolve (.immediate v) s = (.imm v, s) ∧
    resolve (.zeroPage z) s = (.addr (BitVec.ofNat 16 z.toNat) false, s) ∧
    resolve (.zeroPageIndexedX z) s = (.addr (BitVec.ofNat 16 ((z.toNat + s.x.toNat) % 256)) false, s) ∧
    resolve (.zeroPageIndexedY z) s = (.addr (BitVec.ofNat 16 ((z.toNat + s.y.toNat) % 256)) false, s) ∧
    resolve (.absolute w) s = (.addr w false, s) ∧
    resolve (.absoluteIndexedX w) s = (.addr (BitVec.ofNat 16 ((w.toNat + s.x.toNat) % 65536))
      (decide ((w.toNat + s.x.toNat) % 65536 / 256 ≠ w.toNat / 256)), s) ∧
    resolve (.absoluteIndexedY w) s = (.addr (BitVec.ofNat 16 ((w.toNat + s.y.toNat) % 65536))
      (decide ((w.toNat + s.y.toNat) % 65536 / 256 ≠ w.toNat / 256)), s)

/-- R110: the pointer's high byte comes from the same page; two bus reads, low then high, from any region. -/
def Obligations.IndirectModeStaysOnItsPage : Prop :=
  ∀ (s : State) (w : Word),
    let l := memRead w s
    let h := memRead (BitVec.ofNat 16 (w.toNat / 256 * 256 + (w.toNat + 1) % 256)) l.2
    resolve (.indirect w) s = (.addr (BitVec.ofNat 16 (h.1.toNat * 256 + l.1.toNat)) false, h.2)

/-- R111, R112: the pointer's two bytes come from zero page, each index taken mod 256; X is added before the pointer is
read, Y after, and adding Y carries into the high byte. No device access is made. -/
def Obligations.IndexedIndirectModes : Prop :=
  ∀ (s : State) (z : Byte),
    let p := (z.toNat + s.x.toNat) % 256
    let ptr := (s.ram.read ((z.toNat + 1) % 256)).toNat * 256 + (s.ram.read z.toNat).toNat
    resolve (.indirectPreIndexedX z) s =
      (.addr (BitVec.ofNat 16 ((s.ram.read ((p + 1) % 256)).toNat * 256 + (s.ram.read p).toNat)) false, s) ∧
    resolve (.indirectPostIndexedY z) s =
      (.addr (BitVec.ofNat 16 ((ptr + s.y.toNat) % 65536)) (decide ((s.ram.read z.toNat).toNat + s.y.toNat > 255)), s)

/-- R113: the target is the address after the branch plus the signed offset, mod 65536; `crossed` compares their pages. -/
def Obligations.RelativeMode : Prop :=
  ∀ (s : State) (r : Byte),
    let target := BitVec.ofInt 16 ((s.pc.toNat : Int) + r.toInt)
    resolve (.relative r) s = (.addr target (decide (target.toNat / 256 ≠ s.pc.toNat / 256)), s)

/-- R115, R116: what an operand read and an operand write are, for each kind of operand source. -/
def Obligations.OperandAccess : Prop :=
  ∀ (s : State) (o : Operand) (ea : Word) (c : Bool) (v m : Byte),
    readOperand (.addr ea c) s = memRead ea s ∧ readOperand (.imm m) s = (m, s) ∧ readOperand .noOperand s = (s.a, s) ∧
    writeOperand (.addr ea c) v s = memWrite ea v s ∧ writeOperand .noOperand v s = { s with a := v } ∧
    operandValue o s = readOperand (resolve o s).1 (resolve o s).2

/-! ## The bus and the banks -/

/-- R42, R43, R45, R47, R50: the partition of the address space, for a read and for a write; a write to program data
changes nothing at all. R46 gives the device clause its offset and its one call per access; that the byte is
`Config.devRead` of the number of accesses and the offset (log 4) and that reads and writes are entered in `devLog` (log 5)
is the model's choice (DESIGN CHOICE), not the spec's. -/
def Obligations.BusAccessByRegion : Prop :=
  ∀ (s : State) (a : Word) (v : Byte),
    (a ≤ 0x1FFF → memRead a s = (s.ram.read (a.toNat % 2048), s) ∧
      memWrite a v s = { s with ram := s.ram.write (a.toNat % 2048) v }) ∧
    (0x2000 ≤ a → a ≤ 0x7FFF →
      let d := Config.devRead s.devLog.length (a - 0x2000)
      memRead a s = (d, { s with devLog := s.devLog ++ [.read (a - 0x2000) d] }) ∧
      memWrite a v s = { s with devLog := s.devLog ++ [.write (a - 0x2000) v] }) ∧
    (0x8000 ≤ a →
      memRead a s = (s.prg.read (slotBank s ((a.toNat - 0x8000) / 16384) * 16384 + a.toNat % 16384), s) ∧
      memWrite a v s = s)

/-- R45, R53: a byte written to RAM is read back from each of its four addresses, and no other byte changes. -/
def Obligations.RamReadsBackThroughItsMirrors : Prop :=
  ∀ (s : State) (a b : Word) (v : Byte), s.Inv →
    (sameRamByte a b → (memRead b (memWrite a v s)).1 = v) ∧
    (¬ sameRamByte a b → (memWrite a v s).peek b = s.peek b)

/-- R47 to R49: what the two 16KB slots show for one bank, two banks and more. -/
def Obligations.BankSlots : Prop :=
  ∀ (s : State) (k : Nat), k < 16384 →
    let slot0 := s.peek (BitVec.ofNat 16 (0x8000 + k))
    let slot1 := s.peek (BitVec.ofNat 16 (0xC000 + k))
    (s.bankCount = 1 → slot0 = some (s.prg.read k) ∧ slot1 = some (s.prg.read k)) ∧
    (s.bankCount = 2 → slot0 = some (s.prg.read k) ∧ slot1 = some (s.prg.read (16384 + k))) ∧
    (2 < s.bankCount → slot0 = some (s.prg.read (s.bankSel * 16384 + k)) ∧
      slot1 = some (s.prg.read ((s.bankCount - 1) * 16384 + k)))

/-- R18, R19: the status byte bit by bit, and that a pull writes all seven flags and ignores bit 5. -/
def Obligations.StatusByteLayout : Prop :=
  (∀ (soft : Bool) (f : Flags), packP config.breakModel soft f = statusByte f) ∧
    ∀ (p : Byte) (old : Flags), unpackP config.breakModel p old =
      { n := p.getLsbD 7, v := p.getLsbD 6, b := p.getLsbD 4, d := p.getLsbD 3, i := p.getLsbD 2, z := p.getLsbD 1,
        c := p.getLsbD 0 }

/-! ## Loads, stores, transfers -/

/-- R121 to R123 (constructors ldaImm … ldaIzy, ldxImm … ldxAby, ldyImm … ldyAbx): the operand into the register, `Z` and
`N` from it. -/
def Obligations.LoadsReadTheirOperand : Prop :=
  rowsOf .lda = [(.immediate, 0xA9), (.zeroPage, 0xA5), (.zeroPageIndexedX, 0xB5), (.absolute, 0xAD),
      (.absoluteIndexedX, 0xBD), (.absoluteIndexedY, 0xB9), (.indirectPreIndexedX, 0xA1),
      (.indirectPostIndexedY, 0xB1)] ∧
  rowsOf .ldx = [(.immediate, 0xA2), (.zeroPage, 0xA6), (.zeroPageIndexedY, 0xB6), (.absolute, 0xAE),
      (.absoluteIndexedY, 0xBE)] ∧
  rowsOf .ldy = [(.immediate, 0xA0), (.zeroPage, 0xA4), (.zeroPageIndexedX, 0xB4), (.absolute, 0xAC),
      (.absoluteIndexedX, 0xBC)] ∧
  ∀ (i : Instr) (s : State),
    let v := (operandValue i.operand s).1
    let zn := { s.flags with z := v == 0, n := v.msb }
    let log := (operandValue i.operand s).2.devLog
    let cyc := s.cyc + readCycles i.mode (resolve i.operand s).1.crossed
    (i.op = .lda → exec i s = .next { s with a := v, flags := zn, devLog := log, cyc := cyc }) ∧
    (i.op = .ldx → exec i s = .next { s with x := v, flags := zn, devLog := log, cyc := cyc }) ∧
    (i.op = .ldy → exec i s = .next { s with y := v, flags := zn, devLog := log, cyc := cyc })

/-- R124 to R126 (constructors staZp … staIzy, stxZp … stxAbs, styZp … styAbs): one bus write of the register at the
effective address, no read there, no flag. -/
def Obligations.StoresWriteTheirRegister : Prop :=
  rowsOf .sta = [(.zeroPage, 0x85), (.zeroPageIndexedX, 0x95), (.absolute, 0x8D), (.absoluteIndexedX, 0x9D),
      (.absoluteIndexedY, 0x99), (.indirectPreIndexedX, 0x81), (.indirectPostIndexedY, 0x91)] ∧
  rowsOf .stx = [(.zeroPage, 0x86), (.zeroPageIndexedY, 0x96), (.absolute, 0x8E)] ∧
  rowsOf .sty = [(.zeroPage, 0x84), (.zeroPageIndexedX, 0x94), (.absolute, 0x8C)] ∧
  ∀ (i : Instr) (s : State),
    let ea := (resolve i.operand s).1.ea
    let s' := { (resolve i.operand s).2 with cyc := s.cyc + writeCycles i.mode }
    (i.op = .sta → exec i s = .next (memWrite ea s.a s')) ∧
    (i.op = .stx → exec i s = .next (memWrite ea s.x s')) ∧
    (i.op = .sty → exec i s = .next (memWrite ea s.y s'))

/-- R127 to R132: the six register transfers; only TXS leaves `Z` and `N`. -/
def Obligations.TransfersMoveRegisters : Prop :=
  (encode .tax = [0xAA] ∧ encode .tay = [0xA8] ∧ encode .txa = [0x8A] ∧ encode .tya = [0x98] ∧ encode .tsx = [0xBA]
    ∧ encode .txs = [0x9A]) ∧
  ∀ s : State,
    let zn := fun v : Byte => { s.flags with z := v == 0, n := v.msb }
    exec .tax s = .next { s with x := s.a, flags := zn s.a, cyc := s.cyc + 2 } ∧
    exec .tay s = .next { s with y := s.a, flags := zn s.a, cyc := s.cyc + 2 } ∧
    exec .txa s = .next { s with a := s.x, flags := zn s.x, cyc := s.cyc + 2 } ∧
    exec .tya s = .next { s with a := s.y, flags := zn s.y, cyc := s.cyc + 2 } ∧
    exec .tsx s = .next { s with x := s.sp, flags := zn s.sp, cyc := s.cyc + 2 } ∧
    exec .txs s = .next { s with sp := s.x, cyc := s.cyc + 2 }

/-! ## Arithmetic and logic -/

/-- R141 (constructors adcImm … adcIzy): the sum mod 256, `C` the carry out, `V` signed overflow as "lies outside -128 to
127", `Z` and `N` from the result; `D` is not read. -/
def Obligations.AdcAddsWithCarry : Prop :=
  rowsOf .adc = [(.immediate, 0x69), (.zeroPage, 0x65), (.zeroPageIndexedX, 0x75), (.absolute, 0x6D),
      (.absoluteIndexedX, 0x7D), (.absoluteIndexedY, 0x79), (.indirectPreIndexedX, 0x61),
      (.indirectPostIndexedY, 0x71)] ∧
  ∀ (i : Instr) (s : State), i.op = .adc →
    let m := (operandValue i.operand s).1
    let c := if s.flags.c then 1 else 0
    let r := BitVec.ofNat 8 (s.a.toNat + m.toNat + c)
    let e := s.a.toInt + m.toInt + (c : Int)
    exec i s = .next { s with
      a := r
      flags := { s.flags with
        c := decide (255 < s.a.toNat + m.toNat + c), v := decide (e < -128 ∨ 127 < e), z := r == 0, n := r.msb }
      devLog := (operandValue i.operand s).2.devLog
      cyc := s.cyc + readCycles i.mode (resolve i.operand s).1.crossed }

/-- R142 (constructors sbcImm … sbcIzy): the difference mod 256 with an inverted borrow in and out, `V` signed overflow;
and SBC of `m` is ADC of the complement of `m` in every register and flag. -/
def Obligations.SbcSubtractsWithBorrow : Prop :=
  rowsOf .sbc = [(.immediate, 0xE9), (.zeroPage, 0xE5), (.zeroPageIndexedX, 0xF5), (.absolute, 0xED),
      (.absoluteIndexedX, 0xFD), (.absoluteIndexedY, 0xF9), (.indirectPreIndexedX, 0xE1),
      (.indirectPostIndexedY, 0xF1)] ∧
  (∀ (m : Byte) (s : State), exec (.sbcImm m) s = exec (.adcImm (~~~m)) s) ∧
  ∀ (i : Instr) (s : State), i.op = .sbc →
    let m := (operandValue i.operand s).1
    let borrow := if s.flags.c then 0 else 1
    let r := s.a - m - BitVec.ofNat 8 borrow
    let e := s.a.toInt - m.toInt - (borrow : Int)
    exec i s = .next { s with
      a := r
      flags := { s.flags with
        c := decide (m.toNat + borrow ≤ s.a.toNat), v := decide (e < -128 ∨ 127 < e), z := r == 0, n := r.msb }
      devLog := (operandValue i.operand s).2.devLog
      cyc := s.cyc + readCycles i.mode (resolve i.operand s).1.crossed }

/-- R143 to R145 (constructors andImm … andIzy, oraImm … oraIzy, eorImm … eorIzy). -/
def Obligations.LogicOperations : Prop :=
  rowsOf .and = [(.immediate, 0x29), (.zeroPage, 0x25), (.zeroPageIndexedX, 0x35), (.absolute, 0x2D),
      (.absoluteIndexedX, 0x3D), (.absoluteIndexedY, 0x39), (.indirectPreIndexedX, 0x21),
      (.indirectPostIndexedY, 0x31)] ∧
  rowsOf .ora = [(.immediate, 0x09), (.zeroPage, 0x05), (.zeroPageIndexedX, 0x15), (.absolute, 0x0D),
      (.absoluteIndexedX, 0x1D), (.absoluteIndexedY, 0x19), (.indirectPreIndexedX, 0x01),
      (.indirectPostIndexedY, 0x11)] ∧
  rowsOf .eor = [(.immediate, 0x49), (.zeroPage, 0x45), (.zeroPageIndexedX, 0x55), (.absolute, 0x4D),
      (.absoluteIndexedX, 0x5D), (.absoluteIndexedY, 0x59), (.indirectPreIndexedX, 0x41),
      (.indirectPostIndexedY, 0x51)] ∧
  ∀ (i : Instr) (s : State),
    let m := (operandValue i.operand s).1
    let out := fun r : Byte => { s with
      a := r
      flags := { s.flags with z := r == 0, n := r.msb }
      devLog := (operandValue i.operand s).2.devLog
      cyc := s.cyc + readCycles i.mode (resolve i.operand s).1.crossed }
    (i.op = .and → exec i s = .next (out (s.a &&& m))) ∧
    (i.op = .ora → exec i s = .next (out (s.a ||| m))) ∧
    (i.op = .eor → exec i s = .next (out (s.a ^^^ m)))

/-- R146 (constructors bitZp, bitAbs): `Z` from `A & m`, `N` and `V` from bits 7 and 6 of `m`. -/
def Obligations.BitTestsItsOperand : Prop :=
  rowsOf .bit = [(.zeroPage, 0x24), (.absolute, 0x2C)] ∧
  ∀ (i : Instr) (s : State), i.op = .bit →
    let m := (operandValue i.operand s).1
    exec i s = .next { s with
      flags := { s.flags with z := s.a &&& m == 0, n := m.getLsbD 7, v := m.getLsbD 6 }
      devLog := (operandValue i.operand s).2.devLog
      cyc := s.cyc + readCycles i.mode (resolve i.operand s).1.crossed }

/-- R147 to R149, R158 (constructors cmpImm … cmpIzy, cpxImm … cpxAbs, cpyImm … cpyAbs): flags of a discarded difference;
no register changes and the incoming `C` is not read. -/
def Obligations.ComparesSetFlagsOnly : Prop :=
  rowsOf .cmp = [(.immediate, 0xC9), (.zeroPage, 0xC5), (.zeroPageIndexedX, 0xD5), (.absolute, 0xCD),
      (.absoluteIndexedX, 0xDD), (.absoluteIndexedY, 0xD9), (.indirectPreIndexedX, 0xC1),
      (.indirectPostIndexedY, 0xD1)] ∧
  rowsOf .cpx = [(.immediate, 0xE0), (.zeroPage, 0xE4), (.absolute, 0xEC)] ∧
  rowsOf .cpy = [(.immediate, 0xC0), (.zeroPage, 0xC4), (.absolute, 0xCC)] ∧
  ∀ (i : Instr) (s : State),
    let m := (operandValue i.operand s).1
    let out := fun reg : Byte => { s with
      flags := { s.flags with
        c := decide (m.toNat ≤ reg.toNat), z := reg == m
        n := decide (128 ≤ (reg.toNat + 256 - m.toNat) % 256) }
      devLog := (operandValue i.operand s).2.devLog
      cyc := s.cyc + readCycles i.mode (resolve i.operand s).1.crossed }
    (i.op = .cmp → exec i s = .next (out s.a)) ∧
    (i.op = .cpx → exec i s = .next (out s.x)) ∧
    (i.op = .cpy → exec i s = .next (out s.y))

/-- R150, R151 (constructors incZp … incAbx, decZp … decAbx): one read and one write at the same address, `Z` and `N` from
the result, `C` and `V` untouched. -/
def Obligations.MemoryIncrementAndDecrement : Prop :=
  rowsOf .inc = [(.zeroPage, 0xE6), (.zeroPageIndexedX, 0xF6), (.absolute, 0xEE), (.absoluteIndexedX, 0xFE)] ∧
  rowsOf .dec = [(.zeroPage, 0xC6), (.zeroPageIndexedX, 0xD6), (.absolute, 0xCE), (.absoluteIndexedX, 0xDE)] ∧
  ∀ (i : Instr) (s : State),
    let ea := (resolve i.operand s).1.ea
    let m := memRead ea (resolve i.operand s).2
    let out := fun r : Byte => memWrite ea r { m.2 with
      flags := { s.flags with z := r == 0, n := r.msb }
      cyc := s.cyc + modifyCycles i.mode }
    (i.op = .inc → exec i s = .next (out (BitVec.ofNat 8 ((m.1.toNat + 1) % 256)))) ∧
    (i.op = .dec → exec i s = .next (out (BitVec.ofNat 8 ((m.1.toNat + 255) % 256))))

/-- R152 to R155: INX, INY, DEX, DEY. -/
def Obligations.RegisterIncrementAndDecrement : Prop :=
  (encode .inx = [0xE8] ∧ encode .iny = [0xC8] ∧ encode .dex = [0xCA] ∧ encode .dey = [0x88]) ∧
  ∀ s : State,
    let zn := fun v : Byte => { s.flags with z := v == 0, n := v.msb }
    exec .inx s = .next { s with x := s.x + 1, flags := zn (s.x + 1), cyc := s.cyc + 2 } ∧
    exec .iny s = .next { s with y := s.y + 1, flags := zn (s.y + 1), cyc := s.cyc + 2 } ∧
    exec .dex s = .next { s with x := s.x - 1, flags := zn (s.x - 1), cyc := s.cyc + 2 } ∧
    exec .dey s = .next { s with y := s.y - 1, flags := zn (s.y - 1), cyc := s.cyc + 2 }

/-! ## Shifts and rotates -/

/-- R170 to R174, the Accumulator forms as numbers (constructors aslAcc, lsrAcc, rolAcc, rorAcc): no bus access. -/
def Obligations.AccumulatorShifts : Prop :=
  (encode .aslAcc = [0x0A] ∧ encode .lsrAcc = [0x4A] ∧ encode .rolAcc = [0x2A] ∧ encode .rorAcc = [0x6A]) ∧
  ∀ s : State,
    let c := if s.flags.c then 1 else 0
    let out := fun (r : Byte) (carry : Bool) => { s with
      a := r
      flags := { s.flags with c := carry, z := r == 0, n := r.msb }
      cyc := s.cyc + 2 }
    exec .aslAcc s = .next (out (BitVec.ofNat 8 (2 * s.a.toNat % 256)) (decide (128 ≤ s.a.toNat))) ∧
    exec .lsrAcc s = .next (out (BitVec.ofNat 8 (s.a.toNat / 2)) (decide (s.a.toNat % 2 = 1))) ∧
    exec .rolAcc s = .next (out (BitVec.ofNat 8 (2 * s.a.toNat % 256 + c)) (decide (128 ≤ s.a.toNat))) ∧
    exec .rorAcc s = .next (out (BitVec.ofNat 8 (s.a.toNat / 2 + 128 * c)) (decide (s.a.toNat % 2 = 1)))

/-- R170 to R174 (constructors aslAcc … aslAbx, lsrAcc … lsrAbx, rolAcc … rolAbx, rorAcc … rorAbx): one read and one write
of the same operand; `Z` and `N` from the result, `C` the evicted bit, `V` unchanged. -/
def Obligations.ShiftsAndRotates : Prop :=
  rowsOf .asl = [(.accumulator, 0x0A), (.zeroPage, 0x06), (.zeroPageIndexedX, 0x16), (.absolute, 0x0E),
      (.absoluteIndexedX, 0x1E)] ∧
  rowsOf .lsr = [(.accumulator, 0x4A), (.zeroPage, 0x46), (.zeroPageIndexedX, 0x56), (.absolute, 0x4E),
      (.absoluteIndexedX, 0x5E)] ∧
  rowsOf .rol = [(.accumulator, 0x2A), (.zeroPage, 0x26), (.zeroPageIndexedX, 0x36), (.absolute, 0x2E),
      (.absoluteIndexedX, 0x3E)] ∧
  rowsOf .ror = [(.accumulator, 0x6A), (.zeroPage, 0x66), (.zeroPageIndexedX, 0x76), (.absolute, 0x6E),
      (.absoluteIndexedX, 0x7E)] ∧
  ∀ (i : Instr) (s : State),
    let src := (resolve i.operand s).1
    let m := readOperand src (resolve i.operand s).2
    let n := m.1.toNat
    let c := if s.flags.c then 1 else 0
    let out := fun (k : Nat) (carry : Bool) => writeOperand src (BitVec.ofNat 8 k) { m.2 with
      flags := { s.flags with c := carry, z := BitVec.ofNat 8 k == 0, n := (BitVec.ofNat 8 k).msb }
      cyc := s.cyc + modifyCycles i.mode }
    (i.op = .asl → exec i s = .next (out (2 * n % 256) (decide (128 ≤ n)))) ∧
    (i.op = .lsr → exec i s = .next (out (n / 2) (decide (n % 2 = 1)))) ∧
    (i.op = .rol → exec i s = .next (out (2 * n % 256 + c) (decide (128 ≤ n)))) ∧
    (i.op = .ror → exec i s = .next (out (n / 2 + 128 * c) (decide (n % 2 = 1))))

/-! ## Control transfer -/

/-- R180 to R188 (constructors bcc, bcs, beq, bmi, bne, bpl, bvc, bvs): 2 cycles and `PC` not written when not taken; 3,
or 4 to another page, and `PC` at the target when taken. -/
def Obligations.BranchesTestTheirFlag : Prop :=
  (rowsOf .bcc = [(.relative, 0x90)] ∧ rowsOf .bcs = [(.relative, 0xB0)] ∧ rowsOf .beq = [(.relative, 0xF0)]
    ∧ rowsOf .bmi = [(.relative, 0x30)] ∧ rowsOf .bne = [(.relative, 0xD0)] ∧ rowsOf .bpl = [(.relative, 0x10)]
    ∧ rowsOf .bvc = [(.relative, 0x50)] ∧ rowsOf .bvs = [(.relative, 0x70)]) ∧
  ∀ (r : Byte) (s : State),
    let target := BitVec.ofInt 16 ((s.pc.toNat : Int) + r.toInt)
    let taken := { s with
      pc := target
      cyc := s.cyc + if target.toNat / 256 ≠ s.pc.toNat / 256 then 4 else 3 }
    let out := fun cond : Bool => if cond then taken else { s with cyc := s.cyc + 2 }
    exec (.bcc r) s = .next (out !s.flags.c) ∧ exec (.bcs r) s = .next (out s.flags.c) ∧
    exec (.bne r) s = .next (out !s.flags.z) ∧ exec (.beq r) s = .next (out s.flags.z) ∧
    exec (.bpl r) s = .next (out !s.flags.n) ∧ exec (.bmi r) s = .next (out s.flags.n) ∧
    exec (.bvc r) s = .next (out !s.flags.v) ∧ exec (.bvs r) s = .next (out s.flags.v)

/-- R189 (constructors jmpAbs, jmpInd): `PC <- ea`, nothing else; Indirect reads its pointer on one page. -/
def Obligations.JumpsLoadPc : Prop :=
  rowsOf .jmp = [(.absolute, 0x4C), (.indirect, 0x6C)] ∧
  ∀ (w : Word) (s : State),
    let l := memRead w s
    let h := memRead (BitVec.ofNat 16 (w.toNat / 256 * 256 + (w.toNat + 1) % 256)) l.2
    exec (.jmpAbs w) s = .next { s with pc := w, cyc := s.cyc + 3 } ∧
    exec (.jmpInd w) s = .next { s with
      pc := BitVec.ofNat 16 (h.1.toNat * 256 + l.1.toNat), devLog := h.2.devLog, cyc := s.cyc + 5 }

/-- R190, R191 (constructors jsr, rts): JSR pushes the address of its own last byte, high byte first, and jumps; RTS pulls
a word, low byte first, and continues one past it; JSR then RTS returns to the instruction directly after the JSR and
restores `SP`. -/
def Obligations.SubroutineCallAndReturn : Prop :=
  rowsOf .jsr = [(.absolute, 0x20)] ∧ encode .rts = [0x60] ∧
  (∀ (w : Word) (s : State),
    exec (.jsr w) s = .next { s with
      ram := (s.ram.write (256 + s.sp.toNat) (hi (s.pc - 1))).write (256 + (s.sp - 1).toNat) (lo (s.pc - 1))
      sp := s.sp - 2
      pc := w
      cyc := s.cyc + 6 } ∧
    exec .rts s = .next { s with
      sp := s.sp + 2
      pc := word (stackByte s (s.sp + 2)) (stackByte s (s.sp + 1)) + 1
      cyc := s.cyc + 6 }) ∧
  ∀ (w : Word) (s : State), s.Inv →
    ∃ t u, exec (.jsr w) s = .next t ∧ t.pc = w ∧ exec .rts t = .next u ∧ u.pc = s.pc ∧ u.sp = s.sp

/-! ## Stack, flags, system -/

/-- R201 to R204 (constructors pha, pla, php, plp): PHA pushes `A`, PHP the status byte; PLA pulls into `A` and writes `Z`
and `N`; PLP pulls all seven flags. -/
def Obligations.PushesAndPulls : Prop :=
  (encode .pha = [0x48] ∧ encode .php = [0x08] ∧ encode .pla = [0x68] ∧ encode .plp = [0x28]) ∧
  ∀ s : State,
    let pushed := fun v : Byte => { s with
      ram := s.ram.write (256 + s.sp.toNat) v, sp := s.sp - 1, cyc := s.cyc + 3 }
    let v := stackByte s (s.sp + 1)
    exec .pha s = .next (pushed s.a) ∧ exec .php s = .next (pushed (statusByte s.flags)) ∧
    exec .pla s = .next { s with
      a := v, flags := { s.flags with z := v == 0, n := v.msb }, sp := s.sp + 1, cyc := s.cyc + 4 } ∧
    exec .plp s = .next { s with
      flags := { n := v.getLsbD 7, v := v.getLsbD 6, b := v.getLsbD 4, d := v.getLsbD 3, i := v.getLsbD 2
                 z := v.getLsbD 1, c := v.getLsbD 0 }
      sp := s.sp + 1
      cyc := s.cyc + 4 }

/-- R22, S6: PHA, then any change of `A`, then PLA gives `A` and `SP` back. -/
def Obligations.PhaThenPlaRestores : Prop :=
  ∀ (s : State) (v : Byte), s.Inv →
    ∃ t u, exec .pha s = .next t ∧ exec .pla { t with a := v } = .next u ∧ u.a = s.a ∧ u.sp = s.sp

/-- R205 to R212: the seven flag instructions write one flag each; NOP writes nothing. -/
def Obligations.FlagInstructionsAndNop : Prop :=
  (encode .clc = [0x18] ∧ encode .sec = [0x38] ∧ encode .cli = [0x58] ∧ encode .sei = [0x78] ∧ encode .cld = [0xD8]
    ∧ encode .sed = [0xF8] ∧ encode .clv = [0xB8] ∧ encode .nop = [0xEA]) ∧
  ∀ s : State,
    let out := fun f : Flags => { s with flags := f, cyc := s.cyc + 2 }
    exec .clc s = .next (out { s.flags with c := false }) ∧ exec .sec s = .next (out { s.flags with c := true }) ∧
    exec .cli s = .next (out { s.flags with i := false }) ∧ exec .sei s = .next (out { s.flags with i := true }) ∧
    exec .cld s = .next (out { s.flags with d := false }) ∧ exec .sed s = .next (out { s.flags with d := true }) ∧
    exec .clv s = .next (out { s.flags with v := false }) ∧ exec .nop s = .next (out s.flags)

/-- R213: BRK sets `B`, pushes the address of its opcode plus 2 and the status byte with the old `I`, sets `I` and loads
`PC` from the IRQ vector. -/
def Obligations.BrkTakesTheIrqVector : Prop :=
  encode .brk = [0x00] ∧
  ∀ s : State, exec .brk s = .next { s with
    ram := pushedFrame s (s.pc + 1) (statusByte { s.flags with b := true })
    sp := s.sp - 3
    flags := { s.flags with b := true, i := true }
    pc := lastBankWord s 0x3FFE
    cyc := s.cyc + 7 }

/-- R214: RTI pulls the seven flags, then the counter, and adds nothing. -/
def Obligations.RtiRestoresFlagsAndPc : Prop :=
  encode .rti = [0x40] ∧
  ∀ s : State,
    let p := stackByte s (s.sp + 1)
    exec .rti s = .next { s with
      flags := { n := p.getLsbD 7, v := p.getLsbD 6, b := p.getLsbD 4, d := p.getLsbD 3, i := p.getLsbD 2
                 z := p.getLsbD 1, c := p.getLsbD 0 }
      sp := s.sp + 3
      pc := word (stackByte s (s.sp + 3)) (stackByte s (s.sp + 2))
      cyc := s.cyc + 6 }

/-- R231: a step that enters an interrupt, followed at once by RTI, gives back `PC`, `SP`, every flag, `A`, `X` and `Y`.
The three stack bytes written, the latch cleared and `CYC` are not given back. -/
def Obligations.EntryThenRtiRestores : Prop :=
  ∀ s : State, s.Inv → s.ready = true → ¬ s.quiet →
    ∃ t u, step s = .next t ∧ exec .rti t = .next u ∧ u.pc = s.pc ∧ u.sp = s.sp ∧ u.flags = s.flags ∧ u.a = s.a
      ∧ u.x = s.x ∧ u.y = s.y

/-! ## The host's moves -/

/-- R251: `reset()` on any core with a program. -/
def Obligations.ResetMoveLoadsResetState : Prop :=
  ∀ s : State, 1 ≤ s.bankCount →
    s.resetMove = .next { s with
      a := 0
      x := 0
      y := 0
      sp := 0xFD
      flags := { c := false, z := false, i := true, d := false, b := false, v := false, n := false }
      nmiPending := false
      irqPending := false
      ready := true
      pc := lastBankWord s 0x3FFC }

/-- R225: a request sets its latch and nothing else, whether or not one is already pending. -/
def Obligations.RequestsSetTheirLatch : Prop :=
  ∀ s : State, s.requestInterrupt .nmi = { s with nmiPending := true } ∧
    s.requestInterrupt .irq = { s with irqPending := true } ∧
    ∀ k : InterruptKind, (s.requestInterrupt k).requestInterrupt k = s.requestInterrupt k

/-- R51: `select_bank` stores a valid index and nothing else, and is refused for any other; with at most two banks it
changes no byte the bus shows. -/
def Obligations.SelectBankStoresValidIndex : Prop :=
  ∀ (s : State) (n : Nat), (n < s.bankCount → s.selectBank n = .next { s with bankSel := n }) ∧
    (s.bankCount ≤ n → s.selectBank n = .refused (.badBankIndex n)) ∧
    (s.bankCount ≤ 2 → ∀ (t : State) (a : Word), s.selectBank n = .next t → t.peek a = s.peek a)

/-- R52: `install_program_banks` before the first reset, with a size that fits, sets the count, the bytes and
`BANKSEL` = 0; it is refused otherwise. -/
def Obligations.InstallPlacesTheProgram : Prop :=
  ∀ (s : State) (n : Nat) (bytes : List Byte), s.ready = false →
    (1 ≤ n → bytes.length = n * 16384 →
      ∃ t, s.installBanks n bytes = .next t ∧ t.bankCount = n ∧ t.bankSel = 0 ∧
        (∀ k, t.prg.read k = bytes.getD k 0) ∧ t = { s with bankCount := n, prg := t.prg, bankSel := 0 }) ∧
    (n = 0 ∨ bytes.length ≠ n * 16384 → s.installBanks n bytes = .refused .badInstall)

/-- R30, R250: the power-on sequence with any `INIT_RAM` leads to the reset values; with blank RAM and one blank bank it
leads to `State.reset` (that choice of contents is the model's, logs 1 and 2). -/
def Obligations.PowerOnSequenceReachesReset : Prop :=
  (∀ (initRam bytes : List Byte) (n : Nat), 1 ≤ n → bytes.length = n * 16384 →
    ∃ t u, (State.powerOn initRam).installBanks n bytes = .next t ∧ t.resetMove = .next u ∧ u.ready = true ∧
      u.a = 0 ∧ u.x = 0 ∧ u.y = 0 ∧ u.sp = 0xFD ∧
      u.flags = { c := false, z := false, i := true, d := false, b := false, v := false, n := false } ∧
      u.nmiPending = false ∧ u.irqPending = false ∧ u.bankSel = 0 ∧ u.cyc = 0 ∧
      (∀ k, k < 2048 → u.ram.read k = initRam.getD k 0) ∧
      u.pc = word (bytes.getD (n * 16384 - 3) 0) (bytes.getD (n * 16384 - 4) 0)) ∧
  ∃ t, (State.powerOn []).installBanks 1 (List.replicate 16384 0) = .next t ∧ t.resetMove = .next State.reset
end

