-- ==== Sys2Proof/Laws/PerInstr.lean ====
section
/-! SUPPORT. A family of facts about every instruction as syntax, one lemma per constructor: its opcode byte selects a row
of the opcode map with its operation and mode, which makes the instruction again from its operand; the pair is assigned;
the encoding has the mode's length. -/

/-- The operand of an instruction as the word its row takes (R82): one byte zero-extended, two as `hi8:lo8`. -/
def Sys2Proof.Operand.word : Sys2Proof.Operand → Sys2Proof.Word
  | .implied | .accumulator => 0
  | .immediate b | .zeroPage b | .zeroPageIndexedX b | .zeroPageIndexedY b | .indirectPreIndexedX b
  | .indirectPostIndexedY b | .relative b => Sys2Proof.Machine.zext16 b
  | .absolute w | .absoluteIndexedX w | .absoluteIndexedY w | .indirect w => w

theorem Sys2Proof.lo_zext16 (b : Sys2Proof.Byte) : Sys2Proof.Machine.lo (Sys2Proof.Machine.zext16 b) = b := by
  simp [Sys2Proof.Machine.lo, Sys2Proof.Machine.zext16]

/-- What each row of R86 says of its instruction. -/
def Sys2Proof.Laws.Encoding.Statement (i : Sys2Proof.Instr) : Prop :=
  (∃ r, Sys2Proof.rowOfByte i.opcode = some r ∧ r.op = i.op ∧ r.mode = i.mode ∧ r.make i.operand.word = i) ∧
    i.wellFormed = true ∧ (Sys2Proof.encode i).length = i.mode.length

theorem Sys2Proof.Laws.Encoding.adcImm (v : Sys2Proof.Byte) : Sys2Proof.Laws.Encoding.Statement (.adcImm v) := 
  ⟨⟨_, rfl, rfl, rfl, congrArg Sys2Proof.Instr.adcImm (Sys2Proof.lo_zext16 v)⟩, rfl, rfl⟩

theorem Sys2Proof.Laws.Encoding.adcZp (z : Sys2Proof.Byte) : Sys2Proof.Laws.Encoding.Statement (.adcZp z) := 
  ⟨⟨_, rfl, rfl, rfl, congrArg Sys2Proof.Instr.adcZp (Sys2Proof.lo_zext16 z)⟩, rfl, rfl⟩

theorem Sys2Proof.Laws.Encoding.adcZpx (z : Sys2Proof.Byte) : Sys2Proof.Laws.Encoding.Statement (.adcZpx z) := 
  ⟨⟨_, rfl, rfl, rfl, congrArg Sys2Proof.Instr.adcZpx (Sys2Proof.lo_zext16 z)⟩, rfl, rfl⟩

theorem Sys2Proof.Laws.Encoding.adcAbs (w : Sys2Proof.Word) : Sys2Proof.Laws.Encoding.Statement (.adcAbs w) := ⟨⟨_, rfl, rfl, rfl, rfl⟩, rfl, rfl⟩

theorem Sys2Proof.Laws.Encoding.adcAbx (w : Sys2Proof.Word) : Sys2Proof.Laws.Encoding.Statement (.adcAbx w) := ⟨⟨_, rfl, rfl, rfl, rfl⟩, rfl, rfl⟩

theorem Sys2Proof.Laws.Encoding.adcAby (w : Sys2Proof.Word) : Sys2Proof.Laws.Encoding.Statement (.adcAby w) := ⟨⟨_, rfl, rfl, rfl, rfl⟩, rfl, rfl⟩

theorem Sys2Proof.Laws.Encoding.adcIzx (z : Sys2Proof.Byte) : Sys2Proof.Laws.Encoding.Statement (.adcIzx z) := 
  ⟨⟨_, rfl, rfl, rfl, congrArg Sys2Proof.Instr.adcIzx (Sys2Proof.lo_zext16 z)⟩, rfl, rfl⟩

theorem Sys2Proof.Laws.Encoding.adcIzy (z : Sys2Proof.Byte) : Sys2Proof.Laws.Encoding.Statement (.adcIzy z) := 
  ⟨⟨_, rfl, rfl, rfl, congrArg Sys2Proof.Instr.adcIzy (Sys2Proof.lo_zext16 z)⟩, rfl, rfl⟩

theorem Sys2Proof.Laws.Encoding.andImm (v : Sys2Proof.Byte) : Sys2Proof.Laws.Encoding.Statement (.andImm v) := 
  ⟨⟨_, rfl, rfl, rfl, congrArg Sys2Proof.Instr.andImm (Sys2Proof.lo_zext16 v)⟩, rfl, rfl⟩

theorem Sys2Proof.Laws.Encoding.andZp (z : Sys2Proof.Byte) : Sys2Proof.Laws.Encoding.Statement (.andZp z) := 
  ⟨⟨_, rfl, rfl, rfl, congrArg Sys2Proof.Instr.andZp (Sys2Proof.lo_zext16 z)⟩, rfl, rfl⟩

theorem Sys2Proof.Laws.Encoding.andZpx (z : Sys2Proof.Byte) : Sys2Proof.Laws.Encoding.Statement (.andZpx z) := 
  ⟨⟨_, rfl, rfl, rfl, congrArg Sys2Proof.Instr.andZpx (Sys2Proof.lo_zext16 z)⟩, rfl, rfl⟩

theorem Sys2Proof.Laws.Encoding.andAbs (w : Sys2Proof.Word) : Sys2Proof.Laws.Encoding.Statement (.andAbs w) := ⟨⟨_, rfl, rfl, rfl, rfl⟩, rfl, rfl⟩

theorem Sys2Proof.Laws.Encoding.andAbx (w : Sys2Proof.Word) : Sys2Proof.Laws.Encoding.Statement (.andAbx w) := ⟨⟨_, rfl, rfl, rfl, rfl⟩, rfl, rfl⟩

theorem Sys2Proof.Laws.Encoding.andAby (w : Sys2Proof.Word) : Sys2Proof.Laws.Encoding.Statement (.andAby w) := ⟨⟨_, rfl, rfl, rfl, rfl⟩, rfl, rfl⟩

theorem Sys2Proof.Laws.Encoding.andIzx (z : Sys2Proof.Byte) : Sys2Proof.Laws.Encoding.Statement (.andIzx z) := 
  ⟨⟨_, rfl, rfl, rfl, congrArg Sys2Proof.Instr.andIzx (Sys2Proof.lo_zext16 z)⟩, rfl, rfl⟩

theorem Sys2Proof.Laws.Encoding.andIzy (z : Sys2Proof.Byte) : Sys2Proof.Laws.Encoding.Statement (.andIzy z) := 
  ⟨⟨_, rfl, rfl, rfl, congrArg Sys2Proof.Instr.andIzy (Sys2Proof.lo_zext16 z)⟩, rfl, rfl⟩

theorem Sys2Proof.Laws.Encoding.aslAcc : Sys2Proof.Laws.Encoding.Statement .aslAcc := ⟨⟨_, rfl, rfl, rfl, rfl⟩, rfl, rfl⟩

theorem Sys2Proof.Laws.Encoding.aslZp (z : Sys2Proof.Byte) : Sys2Proof.Laws.Encoding.Statement (.aslZp z) := 
  ⟨⟨_, rfl, rfl, rfl, congrArg Sys2Proof.Instr.aslZp (Sys2Proof.lo_zext16 z)⟩, rfl, rfl⟩

theorem Sys2Proof.Laws.Encoding.aslZpx (z : Sys2Proof.Byte) : Sys2Proof.Laws.Encoding.Statement (.aslZpx z) := 
  ⟨⟨_, rfl, rfl, rfl, congrArg Sys2Proof.Instr.aslZpx (Sys2Proof.lo_zext16 z)⟩, rfl, rfl⟩

theorem Sys2Proof.Laws.Encoding.aslAbs (w : Sys2Proof.Word) : Sys2Proof.Laws.Encoding.Statement (.aslAbs w) := ⟨⟨_, rfl, rfl, rfl, rfl⟩, rfl, rfl⟩

theorem Sys2Proof.Laws.Encoding.aslAbx (w : Sys2Proof.Word) : Sys2Proof.Laws.Encoding.Statement (.aslAbx w) := ⟨⟨_, rfl, rfl, rfl, rfl⟩, rfl, rfl⟩

theorem Sys2Proof.Laws.Encoding.bcc (r : Sys2Proof.Byte) : Sys2Proof.Laws.Encoding.Statement (.bcc r) := 
  ⟨⟨_, rfl, rfl, rfl, congrArg Sys2Proof.Instr.bcc (Sys2Proof.lo_zext16 r)⟩, rfl, rfl⟩

theorem Sys2Proof.Laws.Encoding.bcs (r : Sys2Proof.Byte) : Sys2Proof.Laws.Encoding.Statement (.bcs r) := 
  ⟨⟨_, rfl, rfl, rfl, congrArg Sys2Proof.Instr.bcs (Sys2Proof.lo_zext16 r)⟩, rfl, rfl⟩

theorem Sys2Proof.Laws.Encoding.beq (r : Sys2Proof.Byte) : Sys2Proof.Laws.Encoding.Statement (.beq r) := 
  ⟨⟨_, rfl, rfl, rfl, congrArg Sys2Proof.Instr.beq (Sys2Proof.lo_zext16 r)⟩, rfl, rfl⟩

theorem Sys2Proof.Laws.Encoding.bitZp (z : Sys2Proof.Byte) : Sys2Proof.Laws.Encoding.Statement (.bitZp z) := 
  ⟨⟨_, rfl, rfl, rfl, congrArg Sys2Proof.Instr.bitZp (Sys2Proof.lo_zext16 z)⟩, rfl, rfl⟩

theorem Sys2Proof.Laws.Encoding.bitAbs (w : Sys2Proof.Word) : Sys2Proof.Laws.Encoding.Statement (.bitAbs w) := ⟨⟨_, rfl, rfl, rfl, rfl⟩, rfl, rfl⟩

theorem Sys2Proof.Laws.Encoding.bmi (r : Sys2Proof.Byte) : Sys2Proof.Laws.Encoding.Statement (.bmi r) := 
  ⟨⟨_, rfl, rfl, rfl, congrArg Sys2Proof.Instr.bmi (Sys2Proof.lo_zext16 r)⟩, rfl, rfl⟩

theorem Sys2Proof.Laws.Encoding.bne (r : Sys2Proof.Byte) : Sys2Proof.Laws.Encoding.Statement (.bne r) := 
  ⟨⟨_, rfl, rfl, rfl, congrArg Sys2Proof.Instr.bne (Sys2Proof.lo_zext16 r)⟩, rfl, rfl⟩

theorem Sys2Proof.Laws.Encoding.bpl (r : Sys2Proof.Byte) : Sys2Proof.Laws.Encoding.Statement (.bpl r) := 
  ⟨⟨_, rfl, rfl, rfl, congrArg Sys2Proof.Instr.bpl (Sys2Proof.lo_zext16 r)⟩, rfl, rfl⟩

theorem Sys2Proof.Laws.Encoding.brk : Sys2Proof.Laws.Encoding.Statement .brk := ⟨⟨_, rfl, rfl, rfl, rfl⟩, rfl, rfl⟩

theorem Sys2Proof.Laws.Encoding.bvc (r : Sys2Proof.Byte) : Sys2Proof.Laws.Encoding.Statement (.bvc r) := 
  ⟨⟨_, rfl, rfl, rfl, congrArg Sys2Proof.Instr.bvc (Sys2Proof.lo_zext16 r)⟩, rfl, rfl⟩

theorem Sys2Proof.Laws.Encoding.bvs (r : Sys2Proof.Byte) : Sys2Proof.Laws.Encoding.Statement (.bvs r) := 
  ⟨⟨_, rfl, rfl, rfl, congrArg Sys2Proof.Instr.bvs (Sys2Proof.lo_zext16 r)⟩, rfl, rfl⟩

theorem Sys2Proof.Laws.Encoding.clc : Sys2Proof.Laws.Encoding.Statement .clc := ⟨⟨_, rfl, rfl, rfl, rfl⟩, rfl, rfl⟩

theorem Sys2Proof.Laws.Encoding.cld : Sys2Proof.Laws.Encoding.Statement .cld := ⟨⟨_, rfl, rfl, rfl, rfl⟩, rfl, rfl⟩

theorem Sys2Proof.Laws.Encoding.cli : Sys2Proof.Laws.Encoding.Statement .cli := ⟨⟨_, rfl, rfl, rfl, rfl⟩, rfl, rfl⟩

theorem Sys2Proof.Laws.Encoding.clv : Sys2Proof.Laws.Encoding.Statement .clv := ⟨⟨_, rfl, rfl, rfl, rfl⟩, rfl, rfl⟩

theorem Sys2Proof.Laws.Encoding.cmpImm (v : Sys2Proof.Byte) : Sys2Proof.Laws.Encoding.Statement (.cmpImm v) := 
  ⟨⟨_, rfl, rfl, rfl, congrArg Sys2Proof.Instr.cmpImm (Sys2Proof.lo_zext16 v)⟩, rfl, rfl⟩

theorem Sys2Proof.Laws.Encoding.cmpZp (z : Sys2Proof.Byte) : Sys2Proof.Laws.Encoding.Statement (.cmpZp z) := 
  ⟨⟨_, rfl, rfl, rfl, congrArg Sys2Proof.Instr.cmpZp (Sys2Proof.lo_zext16 z)⟩, rfl, rfl⟩

theorem Sys2Proof.Laws.Encoding.cmpZpx (z : Sys2Proof.Byte) : Sys2Proof.Laws.Encoding.Statement (.cmpZpx z) := 
  ⟨⟨_, rfl, rfl, rfl, congrArg Sys2Proof.Instr.cmpZpx (Sys2Proof.lo_zext16 z)⟩, rfl, rfl⟩

theorem Sys2Proof.Laws.Encoding.cmpAbs (w : Sys2Proof.Word) : Sys2Proof.Laws.Encoding.Statement (.cmpAbs w) := ⟨⟨_, rfl, rfl, rfl, rfl⟩, rfl, rfl⟩

theorem Sys2Proof.Laws.Encoding.cmpAbx (w : Sys2Proof.Word) : Sys2Proof.Laws.Encoding.Statement (.cmpAbx w) := ⟨⟨_, rfl, rfl, rfl, rfl⟩, rfl, rfl⟩

theorem Sys2Proof.Laws.Encoding.cmpAby (w : Sys2Proof.Word) : Sys2Proof.Laws.Encoding.Statement (.cmpAby w) := ⟨⟨_, rfl, rfl, rfl, rfl⟩, rfl, rfl⟩

theorem Sys2Proof.Laws.Encoding.cmpIzx (z : Sys2Proof.Byte) : Sys2Proof.Laws.Encoding.Statement (.cmpIzx z) := 
  ⟨⟨_, rfl, rfl, rfl, congrArg Sys2Proof.Instr.cmpIzx (Sys2Proof.lo_zext16 z)⟩, rfl, rfl⟩

theorem Sys2Proof.Laws.Encoding.cmpIzy (z : Sys2Proof.Byte) : Sys2Proof.Laws.Encoding.Statement (.cmpIzy z) := 
  ⟨⟨_, rfl, rfl, rfl, congrArg Sys2Proof.Instr.cmpIzy (Sys2Proof.lo_zext16 z)⟩, rfl, rfl⟩

theorem Sys2Proof.Laws.Encoding.cpxImm (v : Sys2Proof.Byte) : Sys2Proof.Laws.Encoding.Statement (.cpxImm v) := 
  ⟨⟨_, rfl, rfl, rfl, congrArg Sys2Proof.Instr.cpxImm (Sys2Proof.lo_zext16 v)⟩, rfl, rfl⟩

theorem Sys2Proof.Laws.Encoding.cpxZp (z : Sys2Proof.Byte) : Sys2Proof.Laws.Encoding.Statement (.cpxZp z) := 
  ⟨⟨_, rfl, rfl, rfl, congrArg Sys2Proof.Instr.cpxZp (Sys2Proof.lo_zext16 z)⟩, rfl, rfl⟩

theorem Sys2Proof.Laws.Encoding.cpxAbs (w : Sys2Proof.Word) : Sys2Proof.Laws.Encoding.Statement (.cpxAbs w) := ⟨⟨_, rfl, rfl, rfl, rfl⟩, rfl, rfl⟩

theorem Sys2Proof.Laws.Encoding.cpyImm (v : Sys2Proof.Byte) : Sys2Proof.Laws.Encoding.Statement (.cpyImm v) := 
  ⟨⟨_, rfl, rfl, rfl, congrArg Sys2Proof.Instr.cpyImm (Sys2Proof.lo_zext16 v)⟩, rfl, rfl⟩

theorem Sys2Proof.Laws.Encoding.cpyZp (z : Sys2Proof.Byte) : Sys2Proof.Laws.Encoding.Statement (.cpyZp z) := 
  ⟨⟨_, rfl, rfl, rfl, congrArg Sys2Proof.Instr.cpyZp (Sys2Proof.lo_zext16 z)⟩, rfl, rfl⟩

theorem Sys2Proof.Laws.Encoding.cpyAbs (w : Sys2Proof.Word) : Sys2Proof.Laws.Encoding.Statement (.cpyAbs w) := ⟨⟨_, rfl, rfl, rfl, rfl⟩, rfl, rfl⟩

theorem Sys2Proof.Laws.Encoding.decZp (z : Sys2Proof.Byte) : Sys2Proof.Laws.Encoding.Statement (.decZp z) := 
  ⟨⟨_, rfl, rfl, rfl, congrArg Sys2Proof.Instr.decZp (Sys2Proof.lo_zext16 z)⟩, rfl, rfl⟩

theorem Sys2Proof.Laws.Encoding.decZpx (z : Sys2Proof.Byte) : Sys2Proof.Laws.Encoding.Statement (.decZpx z) := 
  ⟨⟨_, rfl, rfl, rfl, congrArg Sys2Proof.Instr.decZpx (Sys2Proof.lo_zext16 z)⟩, rfl, rfl⟩

theorem Sys2Proof.Laws.Encoding.decAbs (w : Sys2Proof.Word) : Sys2Proof.Laws.Encoding.Statement (.decAbs w) := ⟨⟨_, rfl, rfl, rfl, rfl⟩, rfl, rfl⟩

theorem Sys2Proof.Laws.Encoding.decAbx (w : Sys2Proof.Word) : Sys2Proof.Laws.Encoding.Statement (.decAbx w) := ⟨⟨_, rfl, rfl, rfl, rfl⟩, rfl, rfl⟩

theorem Sys2Proof.Laws.Encoding.dex : Sys2Proof.Laws.Encoding.Statement .dex := ⟨⟨_, rfl, rfl, rfl, rfl⟩, rfl, rfl⟩

theorem Sys2Proof.Laws.Encoding.dey : Sys2Proof.Laws.Encoding.Statement .dey := ⟨⟨_, rfl, rfl, rfl, rfl⟩, rfl, rfl⟩

theorem Sys2Proof.Laws.Encoding.eorImm (v : Sys2Proof.Byte) : Sys2Proof.Laws.Encoding.Statement (.eorImm v) := 
  ⟨⟨_, rfl, rfl, rfl, congrArg Sys2Proof.Instr.eorImm (Sys2Proof.lo_zext16 v)⟩, rfl, rfl⟩

theorem Sys2Proof.Laws.Encoding.eorZp (z : Sys2Proof.Byte) : Sys2Proof.Laws.Encoding.Statement (.eorZp z) := 
  ⟨⟨_, rfl, rfl, rfl, congrArg Sys2Proof.Instr.eorZp (Sys2Proof.lo_zext16 z)⟩, rfl, rfl⟩

theorem Sys2Proof.Laws.Encoding.eorZpx (z : Sys2Proof.Byte) : Sys2Proof.Laws.Encoding.Statement (.eorZpx z) := 
  ⟨⟨_, rfl, rfl, rfl, congrArg Sys2Proof.Instr.eorZpx (Sys2Proof.lo_zext16 z)⟩, rfl, rfl⟩

theorem Sys2Proof.Laws.Encoding.eorAbs (w : Sys2Proof.Word) : Sys2Proof.Laws.Encoding.Statement (.eorAbs w) := ⟨⟨_, rfl, rfl, rfl, rfl⟩, rfl, rfl⟩

theorem Sys2Proof.Laws.Encoding.eorAbx (w : Sys2Proof.Word) : Sys2Proof.Laws.Encoding.Statement (.eorAbx w) := ⟨⟨_, rfl, rfl, rfl, rfl⟩, rfl, rfl⟩

theorem Sys2Proof.Laws.Encoding.eorAby (w : Sys2Proof.Word) : Sys2Proof.Laws.Encoding.Statement (.eorAby w) := ⟨⟨_, rfl, rfl, rfl, rfl⟩, rfl, rfl⟩

theorem Sys2Proof.Laws.Encoding.eorIzx (z : Sys2Proof.Byte) : Sys2Proof.Laws.Encoding.Statement (.eorIzx z) := 
  ⟨⟨_, rfl, rfl, rfl, congrArg Sys2Proof.Instr.eorIzx (Sys2Proof.lo_zext16 z)⟩, rfl, rfl⟩

theorem Sys2Proof.Laws.Encoding.eorIzy (z : Sys2Proof.Byte) : Sys2Proof.Laws.Encoding.Statement (.eorIzy z) := 
  ⟨⟨_, rfl, rfl, rfl, congrArg Sys2Proof.Instr.eorIzy (Sys2Proof.lo_zext16 z)⟩, rfl, rfl⟩

theorem Sys2Proof.Laws.Encoding.incZp (z : Sys2Proof.Byte) : Sys2Proof.Laws.Encoding.Statement (.incZp z) := 
  ⟨⟨_, rfl, rfl, rfl, congrArg Sys2Proof.Instr.incZp (Sys2Proof.lo_zext16 z)⟩, rfl, rfl⟩

theorem Sys2Proof.Laws.Encoding.incZpx (z : Sys2Proof.Byte) : Sys2Proof.Laws.Encoding.Statement (.incZpx z) := 
  ⟨⟨_, rfl, rfl, rfl, congrArg Sys2Proof.Instr.incZpx (Sys2Proof.lo_zext16 z)⟩, rfl, rfl⟩

theorem Sys2Proof.Laws.Encoding.incAbs (w : Sys2Proof.Word) : Sys2Proof.Laws.Encoding.Statement (.incAbs w) := ⟨⟨_, rfl, rfl, rfl, rfl⟩, rfl, rfl⟩

theorem Sys2Proof.Laws.Encoding.incAbx (w : Sys2Proof.Word) : Sys2Proof.Laws.Encoding.Statement (.incAbx w) := ⟨⟨_, rfl, rfl, rfl, rfl⟩, rfl, rfl⟩

theorem Sys2Proof.Laws.Encoding.inx : Sys2Proof.Laws.Encoding.Statement .inx := ⟨⟨_, rfl, rfl, rfl, rfl⟩, rfl, rfl⟩

theorem Sys2Proof.Laws.Encoding.iny : Sys2Proof.Laws.Encoding.Statement .iny := ⟨⟨_, rfl, rfl, rfl, rfl⟩, rfl, rfl⟩

theorem Sys2Proof.Laws.Encoding.jmpAbs (w : Sys2Proof.Word) : Sys2Proof.Laws.Encoding.Statement (.jmpAbs w) := ⟨⟨_, rfl, rfl, rfl, rfl⟩, rfl, rfl⟩

theorem Sys2Proof.Laws.Encoding.jmpInd (w : Sys2Proof.Word) : Sys2Proof.Laws.Encoding.Statement (.jmpInd w) := ⟨⟨_, rfl, rfl, rfl, rfl⟩, rfl, rfl⟩

theorem Sys2Proof.Laws.Encoding.jsr (w : Sys2Proof.Word) : Sys2Proof.Laws.Encoding.Statement (.jsr w) := ⟨⟨_, rfl, rfl, rfl, rfl⟩, rfl, rfl⟩

theorem Sys2Proof.Laws.Encoding.ldaImm (v : Sys2Proof.Byte) : Sys2Proof.Laws.Encoding.Statement (.ldaImm v) := 
  ⟨⟨_, rfl, rfl, rfl, congrArg Sys2Proof.Instr.ldaImm (Sys2Proof.lo_zext16 v)⟩, rfl, rfl⟩

theorem Sys2Proof.Laws.Encoding.ldaZp (z : Sys2Proof.Byte) : Sys2Proof.Laws.Encoding.Statement (.ldaZp z) := 
  ⟨⟨_, rfl, rfl, rfl, congrArg Sys2Proof.Instr.ldaZp (Sys2Proof.lo_zext16 z)⟩, rfl, rfl⟩

theorem Sys2Proof.Laws.Encoding.ldaZpx (z : Sys2Proof.Byte) : Sys2Proof.Laws.Encoding.Statement (.ldaZpx z) := 
  ⟨⟨_, rfl, rfl, rfl, congrArg Sys2Proof.Instr.ldaZpx (Sys2Proof.lo_zext16 z)⟩, rfl, rfl⟩

theorem Sys2Proof.Laws.Encoding.ldaAbs (w : Sys2Proof.Word) : Sys2Proof.Laws.Encoding.Statement (.ldaAbs w) := ⟨⟨_, rfl, rfl, rfl, rfl⟩, rfl, rfl⟩

theorem Sys2Proof.Laws.Encoding.ldaAbx (w : Sys2Proof.Word) : Sys2Proof.Laws.Encoding.Statement (.ldaAbx w) := ⟨⟨_, rfl, rfl, rfl, rfl⟩, rfl, rfl⟩

theorem Sys2Proof.Laws.Encoding.ldaAby (w : Sys2Proof.Word) : Sys2Proof.Laws.Encoding.Statement (.ldaAby w) := ⟨⟨_, rfl, rfl, rfl, rfl⟩, rfl, rfl⟩

theorem Sys2Proof.Laws.Encoding.ldaIzx (z : Sys2Proof.Byte) : Sys2Proof.Laws.Encoding.Statement (.ldaIzx z) := 
  ⟨⟨_, rfl, rfl, rfl, congrArg Sys2Proof.Instr.ldaIzx (Sys2Proof.lo_zext16 z)⟩, rfl, rfl⟩

theorem Sys2Proof.Laws.Encoding.ldaIzy (z : Sys2Proof.Byte) : Sys2Proof.Laws.Encoding.Statement (.ldaIzy z) := 
  ⟨⟨_, rfl, rfl, rfl, congrArg Sys2Proof.Instr.ldaIzy (Sys2Proof.lo_zext16 z)⟩, rfl, rfl⟩

theorem Sys2Proof.Laws.Encoding.ldxImm (v : Sys2Proof.Byte) : Sys2Proof.Laws.Encoding.Statement (.ldxImm v) := 
  ⟨⟨_, rfl, rfl, rfl, congrArg Sys2Proof.Instr.ldxImm (Sys2Proof.lo_zext16 v)⟩, rfl, rfl⟩

theorem Sys2Proof.Laws.Encoding.ldxZp (z : Sys2Proof.Byte) : Sys2Proof.Laws.Encoding.Statement (.ldxZp z) := 
  ⟨⟨_, rfl, rfl, rfl, congrArg Sys2Proof.Instr.ldxZp (Sys2Proof.lo_zext16 z)⟩, rfl, rfl⟩

theorem Sys2Proof.Laws.Encoding.ldxZpy (z : Sys2Proof.Byte) : Sys2Proof.Laws.Encoding.Statement (.ldxZpy z) := 
  ⟨⟨_, rfl, rfl, rfl, congrArg Sys2Proof.Instr.ldxZpy (Sys2Proof.lo_zext16 z)⟩, rfl, rfl⟩

theorem Sys2Proof.Laws.Encoding.ldxAbs (w : Sys2Proof.Word) : Sys2Proof.Laws.Encoding.Statement (.ldxAbs w) := ⟨⟨_, rfl, rfl, rfl, rfl⟩, rfl, rfl⟩

theorem Sys2Proof.Laws.Encoding.ldxAby (w : Sys2Proof.Word) : Sys2Proof.Laws.Encoding.Statement (.ldxAby w) := ⟨⟨_, rfl, rfl, rfl, rfl⟩, rfl, rfl⟩

theorem Sys2Proof.Laws.Encoding.ldyImm (v : Sys2Proof.Byte) : Sys2Proof.Laws.Encoding.Statement (.ldyImm v) := 
  ⟨⟨_, rfl, rfl, rfl, congrArg Sys2Proof.Instr.ldyImm (Sys2Proof.lo_zext16 v)⟩, rfl, rfl⟩

theorem Sys2Proof.Laws.Encoding.ldyZp (z : Sys2Proof.Byte) : Sys2Proof.Laws.Encoding.Statement (.ldyZp z) := 
  ⟨⟨_, rfl, rfl, rfl, congrArg Sys2Proof.Instr.ldyZp (Sys2Proof.lo_zext16 z)⟩, rfl, rfl⟩

theorem Sys2Proof.Laws.Encoding.ldyZpx (z : Sys2Proof.Byte) : Sys2Proof.Laws.Encoding.Statement (.ldyZpx z) := 
  ⟨⟨_, rfl, rfl, rfl, congrArg Sys2Proof.Instr.ldyZpx (Sys2Proof.lo_zext16 z)⟩, rfl, rfl⟩

theorem Sys2Proof.Laws.Encoding.ldyAbs (w : Sys2Proof.Word) : Sys2Proof.Laws.Encoding.Statement (.ldyAbs w) := ⟨⟨_, rfl, rfl, rfl, rfl⟩, rfl, rfl⟩

theorem Sys2Proof.Laws.Encoding.ldyAbx (w : Sys2Proof.Word) : Sys2Proof.Laws.Encoding.Statement (.ldyAbx w) := ⟨⟨_, rfl, rfl, rfl, rfl⟩, rfl, rfl⟩

theorem Sys2Proof.Laws.Encoding.lsrAcc : Sys2Proof.Laws.Encoding.Statement .lsrAcc := ⟨⟨_, rfl, rfl, rfl, rfl⟩, rfl, rfl⟩

theorem Sys2Proof.Laws.Encoding.lsrZp (z : Sys2Proof.Byte) : Sys2Proof.Laws.Encoding.Statement (.lsrZp z) := 
  ⟨⟨_, rfl, rfl, rfl, congrArg Sys2Proof.Instr.lsrZp (Sys2Proof.lo_zext16 z)⟩, rfl, rfl⟩

theorem Sys2Proof.Laws.Encoding.lsrZpx (z : Sys2Proof.Byte) : Sys2Proof.Laws.Encoding.Statement (.lsrZpx z) := 
  ⟨⟨_, rfl, rfl, rfl, congrArg Sys2Proof.Instr.lsrZpx (Sys2Proof.lo_zext16 z)⟩, rfl, rfl⟩

theorem Sys2Proof.Laws.Encoding.lsrAbs (w : Sys2Proof.Word) : Sys2Proof.Laws.Encoding.Statement (.lsrAbs w) := ⟨⟨_, rfl, rfl, rfl, rfl⟩, rfl, rfl⟩

theorem Sys2Proof.Laws.Encoding.lsrAbx (w : Sys2Proof.Word) : Sys2Proof.Laws.Encoding.Statement (.lsrAbx w) := ⟨⟨_, rfl, rfl, rfl, rfl⟩, rfl, rfl⟩

theorem Sys2Proof.Laws.Encoding.nop : Sys2Proof.Laws.Encoding.Statement .nop := ⟨⟨_, rfl, rfl, rfl, rfl⟩, rfl, rfl⟩

theorem Sys2Proof.Laws.Encoding.oraImm (v : Sys2Proof.Byte) : Sys2Proof.Laws.Encoding.Statement (.oraImm v) := 
  ⟨⟨_, rfl, rfl, rfl, congrArg Sys2Proof.Instr.oraImm (Sys2Proof.lo_zext16 v)⟩, rfl, rfl⟩

theorem Sys2Proof.Laws.Encoding.oraZp (z : Sys2Proof.Byte) : Sys2Proof.Laws.Encoding.Statement (.oraZp z) := 
  ⟨⟨_, rfl, rfl, rfl, congrArg Sys2Proof.Instr.oraZp (Sys2Proof.lo_zext16 z)⟩, rfl, rfl⟩

theorem Sys2Proof.Laws.Encoding.oraZpx (z : Sys2Proof.Byte) : Sys2Proof.Laws.Encoding.Statement (.oraZpx z) := 
  ⟨⟨_, rfl, rfl, rfl, congrArg Sys2Proof.Instr.oraZpx (Sys2Proof.lo_zext16 z)⟩, rfl, rfl⟩

theorem Sys2Proof.Laws.Encoding.oraAbs (w : Sys2Proof.Word) : Sys2Proof.Laws.Encoding.Statement (.oraAbs w) := ⟨⟨_, rfl, rfl, rfl, rfl⟩, rfl, rfl⟩

theorem Sys2Proof.Laws.Encoding.oraAbx (w : Sys2Proof.Word) : Sys2Proof.Laws.Encoding.Statement (.oraAbx w) := ⟨⟨_, rfl, rfl, rfl, rfl⟩, rfl, rfl⟩

theorem Sys2Proof.Laws.Encoding.oraAby (w : Sys2Proof.Word) : Sys2Proof.Laws.Encoding.Statement (.oraAby w) := ⟨⟨_, rfl, rfl, rfl, rfl⟩, rfl, rfl⟩

theorem Sys2Proof.Laws.Encoding.oraIzx (z : Sys2Proof.Byte) : Sys2Proof.Laws.Encoding.Statement (.oraIzx z) := 
  ⟨⟨_, rfl, rfl, rfl, congrArg Sys2Proof.Instr.oraIzx (Sys2Proof.lo_zext16 z)⟩, rfl, rfl⟩

theorem Sys2Proof.Laws.Encoding.oraIzy (z : Sys2Proof.Byte) : Sys2Proof.Laws.Encoding.Statement (.oraIzy z) := 
  ⟨⟨_, rfl, rfl, rfl, congrArg Sys2Proof.Instr.oraIzy (Sys2Proof.lo_zext16 z)⟩, rfl, rfl⟩

theorem Sys2Proof.Laws.Encoding.pha : Sys2Proof.Laws.Encoding.Statement .pha := ⟨⟨_, rfl, rfl, rfl, rfl⟩, rfl, rfl⟩

theorem Sys2Proof.Laws.Encoding.php : Sys2Proof.Laws.Encoding.Statement .php := ⟨⟨_, rfl, rfl, rfl, rfl⟩, rfl, rfl⟩

theorem Sys2Proof.Laws.Encoding.pla : Sys2Proof.Laws.Encoding.Statement .pla := ⟨⟨_, rfl, rfl, rfl, rfl⟩, rfl, rfl⟩

theorem Sys2Proof.Laws.Encoding.plp : Sys2Proof.Laws.Encoding.Statement .plp := ⟨⟨_, rfl, rfl, rfl, rfl⟩, rfl, rfl⟩

theorem Sys2Proof.Laws.Encoding.rolAcc : Sys2Proof.Laws.Encoding.Statement .rolAcc := ⟨⟨_, rfl, rfl, rfl, rfl⟩, rfl, rfl⟩

theorem Sys2Proof.Laws.Encoding.rolZp (z : Sys2Proof.Byte) : Sys2Proof.Laws.Encoding.Statement (.rolZp z) := 
  ⟨⟨_, rfl, rfl, rfl, congrArg Sys2Proof.Instr.rolZp (Sys2Proof.lo_zext16 z)⟩, rfl, rfl⟩

theorem Sys2Proof.Laws.Encoding.rolZpx (z : Sys2Proof.Byte) : Sys2Proof.Laws.Encoding.Statement (.rolZpx z) := 
  ⟨⟨_, rfl, rfl, rfl, congrArg Sys2Proof.Instr.rolZpx (Sys2Proof.lo_zext16 z)⟩, rfl, rfl⟩

theorem Sys2Proof.Laws.Encoding.rolAbs (w : Sys2Proof.Word) : Sys2Proof.Laws.Encoding.Statement (.rolAbs w) := ⟨⟨_, rfl, rfl, rfl, rfl⟩, rfl, rfl⟩

theorem Sys2Proof.Laws.Encoding.rolAbx (w : Sys2Proof.Word) : Sys2Proof.Laws.Encoding.Statement (.rolAbx w) := ⟨⟨_, rfl, rfl, rfl, rfl⟩, rfl, rfl⟩

theorem Sys2Proof.Laws.Encoding.rorAcc : Sys2Proof.Laws.Encoding.Statement .rorAcc := ⟨⟨_, rfl, rfl, rfl, rfl⟩, rfl, rfl⟩

theorem Sys2Proof.Laws.Encoding.rorZp (z : Sys2Proof.Byte) : Sys2Proof.Laws.Encoding.Statement (.rorZp z) := 
  ⟨⟨_, rfl, rfl, rfl, congrArg Sys2Proof.Instr.rorZp (Sys2Proof.lo_zext16 z)⟩, rfl, rfl⟩

theorem Sys2Proof.Laws.Encoding.rorZpx (z : Sys2Proof.Byte) : Sys2Proof.Laws.Encoding.Statement (.rorZpx z) := 
  ⟨⟨_, rfl, rfl, rfl, congrArg Sys2Proof.Instr.rorZpx (Sys2Proof.lo_zext16 z)⟩, rfl, rfl⟩

theorem Sys2Proof.Laws.Encoding.rorAbs (w : Sys2Proof.Word) : Sys2Proof.Laws.Encoding.Statement (.rorAbs w) := ⟨⟨_, rfl, rfl, rfl, rfl⟩, rfl, rfl⟩

theorem Sys2Proof.Laws.Encoding.rorAbx (w : Sys2Proof.Word) : Sys2Proof.Laws.Encoding.Statement (.rorAbx w) := ⟨⟨_, rfl, rfl, rfl, rfl⟩, rfl, rfl⟩

theorem Sys2Proof.Laws.Encoding.rti : Sys2Proof.Laws.Encoding.Statement .rti := ⟨⟨_, rfl, rfl, rfl, rfl⟩, rfl, rfl⟩

theorem Sys2Proof.Laws.Encoding.rts : Sys2Proof.Laws.Encoding.Statement .rts := ⟨⟨_, rfl, rfl, rfl, rfl⟩, rfl, rfl⟩

theorem Sys2Proof.Laws.Encoding.sbcImm (v : Sys2Proof.Byte) : Sys2Proof.Laws.Encoding.Statement (.sbcImm v) := 
  ⟨⟨_, rfl, rfl, rfl, congrArg Sys2Proof.Instr.sbcImm (Sys2Proof.lo_zext16 v)⟩, rfl, rfl⟩

theorem Sys2Proof.Laws.Encoding.sbcZp (z : Sys2Proof.Byte) : Sys2Proof.Laws.Encoding.Statement (.sbcZp z) := 
  ⟨⟨_, rfl, rfl, rfl, congrArg Sys2Proof.Instr.sbcZp (Sys2Proof.lo_zext16 z)⟩, rfl, rfl⟩

theorem Sys2Proof.Laws.Encoding.sbcZpx (z : Sys2Proof.Byte) : Sys2Proof.Laws.Encoding.Statement (.sbcZpx z) := 
  ⟨⟨_, rfl, rfl, rfl, congrArg Sys2Proof.Instr.sbcZpx (Sys2Proof.lo_zext16 z)⟩, rfl, rfl⟩

theorem Sys2Proof.Laws.Encoding.sbcAbs (w : Sys2Proof.Word) : Sys2Proof.Laws.Encoding.Statement (.sbcAbs w) := ⟨⟨_, rfl, rfl, rfl, rfl⟩, rfl, rfl⟩

theorem Sys2Proof.Laws.Encoding.sbcAbx (w : Sys2Proof.Word) : Sys2Proof.Laws.Encoding.Statement (.sbcAbx w) := ⟨⟨_, rfl, rfl, rfl, rfl⟩, rfl, rfl⟩

theorem Sys2Proof.Laws.Encoding.sbcAby (w : Sys2Proof.Word) : Sys2Proof.Laws.Encoding.Statement (.sbcAby w) := ⟨⟨_, rfl, rfl, rfl, rfl⟩, rfl, rfl⟩

theorem Sys2Proof.Laws.Encoding.sbcIzx (z : Sys2Proof.Byte) : Sys2Proof.Laws.Encoding.Statement (.sbcIzx z) := 
  ⟨⟨_, rfl, rfl, rfl, congrArg Sys2Proof.Instr.sbcIzx (Sys2Proof.lo_zext16 z)⟩, rfl, rfl⟩

theorem Sys2Proof.Laws.Encoding.sbcIzy (z : Sys2Proof.Byte) : Sys2Proof.Laws.Encoding.Statement (.sbcIzy z) := 
  ⟨⟨_, rfl, rfl, rfl, congrArg Sys2Proof.Instr.sbcIzy (Sys2Proof.lo_zext16 z)⟩, rfl, rfl⟩

theorem Sys2Proof.Laws.Encoding.sec : Sys2Proof.Laws.Encoding.Statement .sec := ⟨⟨_, rfl, rfl, rfl, rfl⟩, rfl, rfl⟩

theorem Sys2Proof.Laws.Encoding.sed : Sys2Proof.Laws.Encoding.Statement .sed := ⟨⟨_, rfl, rfl, rfl, rfl⟩, rfl, rfl⟩

theorem Sys2Proof.Laws.Encoding.sei : Sys2Proof.Laws.Encoding.Statement .sei := ⟨⟨_, rfl, rfl, rfl, rfl⟩, rfl, rfl⟩

theorem Sys2Proof.Laws.Encoding.staZp (z : Sys2Proof.Byte) : Sys2Proof.Laws.Encoding.Statement (.staZp z) := 
  ⟨⟨_, rfl, rfl, rfl, congrArg Sys2Proof.Instr.staZp (Sys2Proof.lo_zext16 z)⟩, rfl, rfl⟩

theorem Sys2Proof.Laws.Encoding.staZpx (z : Sys2Proof.Byte) : Sys2Proof.Laws.Encoding.Statement (.staZpx z) := 
  ⟨⟨_, rfl, rfl, rfl, congrArg Sys2Proof.Instr.staZpx (Sys2Proof.lo_zext16 z)⟩, rfl, rfl⟩

theorem Sys2Proof.Laws.Encoding.staAbs (w : Sys2Proof.Word) : Sys2Proof.Laws.Encoding.Statement (.staAbs w) := ⟨⟨_, rfl, rfl, rfl, rfl⟩, rfl, rfl⟩

theorem Sys2Proof.Laws.Encoding.staAbx (w : Sys2Proof.Word) : Sys2Proof.Laws.Encoding.Statement (.staAbx w) := ⟨⟨_, rfl, rfl, rfl, rfl⟩, rfl, rfl⟩

theorem Sys2Proof.Laws.Encoding.staAby (w : Sys2Proof.Word) : Sys2Proof.Laws.Encoding.Statement (.staAby w) := ⟨⟨_, rfl, rfl, rfl, rfl⟩, rfl, rfl⟩

theorem Sys2Proof.Laws.Encoding.staIzx (z : Sys2Proof.Byte) : Sys2Proof.Laws.Encoding.Statement (.staIzx z) := 
  ⟨⟨_, rfl, rfl, rfl, congrArg Sys2Proof.Instr.staIzx (Sys2Proof.lo_zext16 z)⟩, rfl, rfl⟩

theorem Sys2Proof.Laws.Encoding.staIzy (z : Sys2Proof.Byte) : Sys2Proof.Laws.Encoding.Statement (.staIzy z) := 
  ⟨⟨_, rfl, rfl, rfl, congrArg Sys2Proof.Instr.staIzy (Sys2Proof.lo_zext16 z)⟩, rfl, rfl⟩

theorem Sys2Proof.Laws.Encoding.stxZp (z : Sys2Proof.Byte) : Sys2Proof.Laws.Encoding.Statement (.stxZp z) := 
  ⟨⟨_, rfl, rfl, rfl, congrArg Sys2Proof.Instr.stxZp (Sys2Proof.lo_zext16 z)⟩, rfl, rfl⟩

theorem Sys2Proof.Laws.Encoding.stxZpy (z : Sys2Proof.Byte) : Sys2Proof.Laws.Encoding.Statement (.stxZpy z) := 
  ⟨⟨_, rfl, rfl, rfl, congrArg Sys2Proof.Instr.stxZpy (Sys2Proof.lo_zext16 z)⟩, rfl, rfl⟩

theorem Sys2Proof.Laws.Encoding.stxAbs (w : Sys2Proof.Word) : Sys2Proof.Laws.Encoding.Statement (.stxAbs w) := ⟨⟨_, rfl, rfl, rfl, rfl⟩, rfl, rfl⟩

theorem Sys2Proof.Laws.Encoding.styZp (z : Sys2Proof.Byte) : Sys2Proof.Laws.Encoding.Statement (.styZp z) := 
  ⟨⟨_, rfl, rfl, rfl, congrArg Sys2Proof.Instr.styZp (Sys2Proof.lo_zext16 z)⟩, rfl, rfl⟩

theorem Sys2Proof.Laws.Encoding.styZpx (z : Sys2Proof.Byte) : Sys2Proof.Laws.Encoding.Statement (.styZpx z) := 
  ⟨⟨_, rfl, rfl, rfl, congrArg Sys2Proof.Instr.styZpx (Sys2Proof.lo_zext16 z)⟩, rfl, rfl⟩

theorem Sys2Proof.Laws.Encoding.styAbs (w : Sys2Proof.Word) : Sys2Proof.Laws.Encoding.Statement (.styAbs w) := ⟨⟨_, rfl, rfl, rfl, rfl⟩, rfl, rfl⟩

theorem Sys2Proof.Laws.Encoding.tax : Sys2Proof.Laws.Encoding.Statement .tax := ⟨⟨_, rfl, rfl, rfl, rfl⟩, rfl, rfl⟩

theorem Sys2Proof.Laws.Encoding.tay : Sys2Proof.Laws.Encoding.Statement .tay := ⟨⟨_, rfl, rfl, rfl, rfl⟩, rfl, rfl⟩

theorem Sys2Proof.Laws.Encoding.tsx : Sys2Proof.Laws.Encoding.Statement .tsx := ⟨⟨_, rfl, rfl, rfl, rfl⟩, rfl, rfl⟩

theorem Sys2Proof.Laws.Encoding.txa : Sys2Proof.Laws.Encoding.Statement .txa := ⟨⟨_, rfl, rfl, rfl, rfl⟩, rfl, rfl⟩

theorem Sys2Proof.Laws.Encoding.txs : Sys2Proof.Laws.Encoding.Statement .txs := ⟨⟨_, rfl, rfl, rfl, rfl⟩, rfl, rfl⟩

theorem Sys2Proof.Laws.Encoding.tya : Sys2Proof.Laws.Encoding.Statement .tya := ⟨⟨_, rfl, rfl, rfl, rfl⟩, rfl, rfl⟩
end

