-- ==== Sys2Proof/Laws/Decode.lean ====
section
/-! SUPPORT. The laws of the opcode map and the decoder: rows are disjoint, the map agrees with the mode lists of files 41
to 45, and every instruction's opcode selects a row that makes it again. -/

namespace Sys2Proof

open Sys2Proof.Machine

/-- R86 has one row per opcode byte, 151 rows, no two alike. -/
theorem opcodeMap_length : opcodeMap.length = 151 := by
  set_option maxRecDepth 20000 in decide

theorem opcodeMap_disjoint : (opcodeMap.map fun r => r.opcode).Pairwise (· ≠ ·) := by
  set_option maxRecDepth 20000 in decide

/-- The opcode map R86 and the "Modes:" lines of files 41 to 45 assign the same pairs (R90). -/
theorem assigned_eq_row (op : Op) (m : Mode) : assigned op m = (rowOfPair op m).isSome := by
  cases op <;> cases m <;> rfl

/-- The family Encoding holds of every instruction. -/
theorem encoding_all (i : Instr) : Laws.Encoding.Statement i := by
  cases i with
  | adcImm v => exact Laws.Encoding.adcImm v
  | adcZp z => exact Laws.Encoding.adcZp z
  | adcZpx z => exact Laws.Encoding.adcZpx z
  | adcAbs w => exact Laws.Encoding.adcAbs w
  | adcAbx w => exact Laws.Encoding.adcAbx w
  | adcAby w => exact Laws.Encoding.adcAby w
  | adcIzx z => exact Laws.Encoding.adcIzx z
  | adcIzy z => exact Laws.Encoding.adcIzy z
  | andImm v => exact Laws.Encoding.andImm v
  | andZp z => exact Laws.Encoding.andZp z
  | andZpx z => exact Laws.Encoding.andZpx z
  | andAbs w => exact Laws.Encoding.andAbs w
  | andAbx w => exact Laws.Encoding.andAbx w
  | andAby w => exact Laws.Encoding.andAby w
  | andIzx z => exact Laws.Encoding.andIzx z
  | andIzy z => exact Laws.Encoding.andIzy z
  | aslAcc => exact Laws.Encoding.aslAcc
  | aslZp z => exact Laws.Encoding.aslZp z
  | aslZpx z => exact Laws.Encoding.aslZpx z
  | aslAbs w => exact Laws.Encoding.aslAbs w
  | aslAbx w => exact Laws.Encoding.aslAbx w
  | bcc r => exact Laws.Encoding.bcc r
  | bcs r => exact Laws.Encoding.bcs r
  | beq r => exact Laws.Encoding.beq r
  | bitZp z => exact Laws.Encoding.bitZp z
  | bitAbs w => exact Laws.Encoding.bitAbs w
  | bmi r => exact Laws.Encoding.bmi r
  | bne r => exact Laws.Encoding.bne r
  | bpl r => exact Laws.Encoding.bpl r
  | brk => exact Laws.Encoding.brk
  | bvc r => exact Laws.Encoding.bvc r
  | bvs r => exact Laws.Encoding.bvs r
  | clc => exact Laws.Encoding.clc
  | cld => exact Laws.Encoding.cld
  | cli => exact Laws.Encoding.cli
  | clv => exact Laws.Encoding.clv
  | cmpImm v => exact Laws.Encoding.cmpImm v
  | cmpZp z => exact Laws.Encoding.cmpZp z
  | cmpZpx z => exact Laws.Encoding.cmpZpx z
  | cmpAbs w => exact Laws.Encoding.cmpAbs w
  | cmpAbx w => exact Laws.Encoding.cmpAbx w
  | cmpAby w => exact Laws.Encoding.cmpAby w
  | cmpIzx z => exact Laws.Encoding.cmpIzx z
  | cmpIzy z => exact Laws.Encoding.cmpIzy z
  | cpxImm v => exact Laws.Encoding.cpxImm v
  | cpxZp z => exact Laws.Encoding.cpxZp z
  | cpxAbs w => exact Laws.Encoding.cpxAbs w
  | cpyImm v => exact Laws.Encoding.cpyImm v
  | cpyZp z => exact Laws.Encoding.cpyZp z
  | cpyAbs w => exact Laws.Encoding.cpyAbs w
  | decZp z => exact Laws.Encoding.decZp z
  | decZpx z => exact Laws.Encoding.decZpx z
  | decAbs w => exact Laws.Encoding.decAbs w
  | decAbx w => exact Laws.Encoding.decAbx w
  | dex => exact Laws.Encoding.dex
  | dey => exact Laws.Encoding.dey
  | eorImm v => exact Laws.Encoding.eorImm v
  | eorZp z => exact Laws.Encoding.eorZp z
  | eorZpx z => exact Laws.Encoding.eorZpx z
  | eorAbs w => exact Laws.Encoding.eorAbs w
  | eorAbx w => exact Laws.Encoding.eorAbx w
  | eorAby w => exact Laws.Encoding.eorAby w
  | eorIzx z => exact Laws.Encoding.eorIzx z
  | eorIzy z => exact Laws.Encoding.eorIzy z
  | incZp z => exact Laws.Encoding.incZp z
  | incZpx z => exact Laws.Encoding.incZpx z
  | incAbs w => exact Laws.Encoding.incAbs w
  | incAbx w => exact Laws.Encoding.incAbx w
  | inx => exact Laws.Encoding.inx
  | iny => exact Laws.Encoding.iny
  | jmpAbs w => exact Laws.Encoding.jmpAbs w
  | jmpInd w => exact Laws.Encoding.jmpInd w
  | jsr w => exact Laws.Encoding.jsr w
  | ldaImm v => exact Laws.Encoding.ldaImm v
  | ldaZp z => exact Laws.Encoding.ldaZp z
  | ldaZpx z => exact Laws.Encoding.ldaZpx z
  | ldaAbs w => exact Laws.Encoding.ldaAbs w
  | ldaAbx w => exact Laws.Encoding.ldaAbx w
  | ldaAby w => exact Laws.Encoding.ldaAby w
  | ldaIzx z => exact Laws.Encoding.ldaIzx z
  | ldaIzy z => exact Laws.Encoding.ldaIzy z
  | ldxImm v => exact Laws.Encoding.ldxImm v
  | ldxZp z => exact Laws.Encoding.ldxZp z
  | ldxZpy z => exact Laws.Encoding.ldxZpy z
  | ldxAbs w => exact Laws.Encoding.ldxAbs w
  | ldxAby w => exact Laws.Encoding.ldxAby w
  | ldyImm v => exact Laws.Encoding.ldyImm v
  | ldyZp z => exact Laws.Encoding.ldyZp z
  | ldyZpx z => exact Laws.Encoding.ldyZpx z
  | ldyAbs w => exact Laws.Encoding.ldyAbs w
  | ldyAbx w => exact Laws.Encoding.ldyAbx w
  | lsrAcc => exact Laws.Encoding.lsrAcc
  | lsrZp z => exact Laws.Encoding.lsrZp z
  | lsrZpx z => exact Laws.Encoding.lsrZpx z
  | lsrAbs w => exact Laws.Encoding.lsrAbs w
  | lsrAbx w => exact Laws.Encoding.lsrAbx w
  | nop => exact Laws.Encoding.nop
  | oraImm v => exact Laws.Encoding.oraImm v
  | oraZp z => exact Laws.Encoding.oraZp z
  | oraZpx z => exact Laws.Encoding.oraZpx z
  | oraAbs w => exact Laws.Encoding.oraAbs w
  | oraAbx w => exact Laws.Encoding.oraAbx w
  | oraAby w => exact Laws.Encoding.oraAby w
  | oraIzx z => exact Laws.Encoding.oraIzx z
  | oraIzy z => exact Laws.Encoding.oraIzy z
  | pha => exact Laws.Encoding.pha
  | php => exact Laws.Encoding.php
  | pla => exact Laws.Encoding.pla
  | plp => exact Laws.Encoding.plp
  | rolAcc => exact Laws.Encoding.rolAcc
  | rolZp z => exact Laws.Encoding.rolZp z
  | rolZpx z => exact Laws.Encoding.rolZpx z
  | rolAbs w => exact Laws.Encoding.rolAbs w
  | rolAbx w => exact Laws.Encoding.rolAbx w
  | rorAcc => exact Laws.Encoding.rorAcc
  | rorZp z => exact Laws.Encoding.rorZp z
  | rorZpx z => exact Laws.Encoding.rorZpx z
  | rorAbs w => exact Laws.Encoding.rorAbs w
  | rorAbx w => exact Laws.Encoding.rorAbx w
  | rti => exact Laws.Encoding.rti
  | rts => exact Laws.Encoding.rts
  | sbcImm v => exact Laws.Encoding.sbcImm v
  | sbcZp z => exact Laws.Encoding.sbcZp z
  | sbcZpx z => exact Laws.Encoding.sbcZpx z
  | sbcAbs w => exact Laws.Encoding.sbcAbs w
  | sbcAbx w => exact Laws.Encoding.sbcAbx w
  | sbcAby w => exact Laws.Encoding.sbcAby w
  | sbcIzx z => exact Laws.Encoding.sbcIzx z
  | sbcIzy z => exact Laws.Encoding.sbcIzy z
  | sec => exact Laws.Encoding.sec
  | sed => exact Laws.Encoding.sed
  | sei => exact Laws.Encoding.sei
  | staZp z => exact Laws.Encoding.staZp z
  | staZpx z => exact Laws.Encoding.staZpx z
  | staAbs w => exact Laws.Encoding.staAbs w
  | staAbx w => exact Laws.Encoding.staAbx w
  | staAby w => exact Laws.Encoding.staAby w
  | staIzx z => exact Laws.Encoding.staIzx z
  | staIzy z => exact Laws.Encoding.staIzy z
  | stxZp z => exact Laws.Encoding.stxZp z
  | stxZpy z => exact Laws.Encoding.stxZpy z
  | stxAbs w => exact Laws.Encoding.stxAbs w
  | styZp z => exact Laws.Encoding.styZp z
  | styZpx z => exact Laws.Encoding.styZpx z
  | styAbs w => exact Laws.Encoding.styAbs w
  | tax => exact Laws.Encoding.tax
  | tay => exact Laws.Encoding.tay
  | tsx => exact Laws.Encoding.tsx
  | txa => exact Laws.Encoding.txa
  | txs => exact Laws.Encoding.txs
  | tya => exact Laws.Encoding.tya

/-- Every instruction term is well formed (R89, R90). -/
theorem Instr.wellFormed_all (i : Instr) : i.wellFormed = true := (encoding_all i).2.1

/-- The row an instruction's opcode selects makes the instruction again. -/
theorem rowOfByte_opcode (i : Instr) :
    ∃ r, rowOfByte i.opcode = some r ∧ r.op = i.op ∧ r.mode = i.mode ∧ r.make i.operand.word = i := (encoding_all i).1

theorem encode_length (i : Instr) : (encode i).length = i.mode.length := (encoding_all i).2.2

/-- A mode's operand bytes are as many as its operands have (R81). -/
theorem Operand.bytes_length (o : Operand) : o.bytes.length = o.mode.operandBytes := by cases o <;> rfl

/-- The row a byte selects is in the table under that byte (R84). -/
theorem rowOfByte_sound {b : Byte} {r : OpcodeRow} (h : rowOfByte b = some r) : r ∈ opcodeMap ∧ r.opcode = b := by
  unfold rowOfByte at h
  split at h
  · rename_i r' h'
    cases h
    exact ⟨List.mem_of_find?_eq_some h', by simpa using List.find?_some h'⟩
  · simp [config] at h

end Sys2Proof
end

