-- ==== Sys2Proof/Laws/Memory.lean ====
section
/-! SUPPORT. The laws of the byte memories: a read after a write, and the canonical form (equal contents are equal data,
every operation keeps it). -/

namespace Sys2Proof.Machine

theorem Memory.wfFrom_mono {bound lb lb' : Nat} {m : Memory} (h : Memory.wfFrom bound lb m = true) (hl : lb' ≤ lb) :
    Memory.wfFrom bound lb' m = true := by
  cases m with
  | nil => rfl
  | cons e m =>
    simp only [Memory.wfFrom, Bool.and_eq_true, decide_eq_true_eq] at h ⊢
    exact ⟨⟨⟨by omega, h.1.1.2⟩, h.1.2⟩, h.2⟩

/-- Below the lower bound of a canonical memory nothing is listed. -/
theorem Memory.read_below {bound lb k : Nat} {m : Memory} (h : Memory.wfFrom bound lb m = true) (hk : k < lb) :
    m.read k = Memory.blank := by
  induction m generalizing lb with
  | nil => rfl
  | cons e m ih =>
    simp only [Memory.wfFrom, Bool.and_eq_true, decide_eq_true_eq] at h
    rw [Memory.read, if_neg (by omega)]
    exact ih h.2 (by omega)

/-- Nothing is listed at or above the bound. -/
theorem Memory.read_above {bound lb k : Nat} {m : Memory} (h : Memory.wfFrom bound lb m = true) (hk : bound ≤ k) :
    m.read k = Memory.blank := by
  induction m generalizing lb with
  | nil => rfl
  | cons e m ih =>
    simp only [Memory.wfFrom, Bool.and_eq_true, decide_eq_true_eq] at h
    rw [Memory.read, if_neg (by omega)]
    exact ih h.2

theorem Memory.read_write_other {m : Memory} {k k' : Nat} {v : Byte} (h : k' ≠ k) :
    (m.write k v).read k' = m.read k' := by
  induction m with
  | nil => simp only [Memory.write]; split <;> simp [Memory.read, h]
  | cons e m ih =>
    simp only [Memory.write]
    split
    · split <;> simp [Memory.read, h]
    · split
      · rename_i _ hk
        split <;> simp [Memory.read, ← hk, h]
      · simp [Memory.read, ih]

theorem Memory.read_write_same_from {bound lb : Nat} {m : Memory} {k : Nat} {v : Byte}
    (h : Memory.wfFrom bound lb m = true) : (m.write k v).read k = v := by
  induction m generalizing lb with
  | nil => simp only [Memory.write]; split <;> simp_all [Memory.read]
  | cons e m ih =>
    simp only [Memory.wfFrom, Bool.and_eq_true, decide_eq_true_eq] at h
    simp only [Memory.write]
    split
    · rename_i hk
      split
      · rename_i hv
        rw [Memory.read, if_neg (by omega), Memory.read_below h.2 (by omega), hv]
      · simp [Memory.read]
    · split
      · rename_i hk
        split
        · rename_i hv
          rw [Memory.read_below h.2 (by omega), hv]
        · simp [Memory.read]
      · rename_i hne
        rw [Memory.read, if_neg hne]
        exact ih h.2

/-- A read after a write to the same index gives the byte written. -/
theorem Memory.read_write_same {bound : Nat} {m : Memory} {k : Nat} {v : Byte} (h : m.wf bound = true) :
    (m.write k v).read k = v := Memory.read_write_same_from h

theorem Memory.write_wfFrom {bound lb k : Nat} {m : Memory} {v : Byte} (h : Memory.wfFrom bound lb m = true)
    (hl : lb ≤ k) (hk : k < bound) : Memory.wfFrom bound lb (m.write k v) = true := by
  induction m generalizing lb with
  | nil => simp only [Memory.write]; split <;> simp_all [Memory.wfFrom]
  | cons e m ih =>
    have h0 := h
    simp only [Memory.wfFrom, Bool.and_eq_true, decide_eq_true_eq] at h
    simp only [Memory.write]
    split
    · split
      · exact h0
      · simp only [Memory.wfFrom, Bool.and_eq_true, decide_eq_true_eq]
        exact ⟨⟨⟨hl, hk⟩, ‹_›⟩, ⟨⟨by omega, h.1.1.2⟩, h.1.2⟩, h.2⟩
    · split
      · rename_i hkj
        split
        · exact Memory.wfFrom_mono h.2 (by omega)
        · simp only [Memory.wfFrom, Bool.and_eq_true, decide_eq_true_eq]
          exact ⟨⟨⟨hl, hk⟩, ‹_›⟩, hkj ▸ h.2⟩
      · simp only [Memory.wfFrom, Bool.and_eq_true, decide_eq_true_eq]
        exact ⟨⟨⟨h.1.1.1, h.1.1.2⟩, h.1.2⟩, ih h.2 (by omega)⟩

/-- A write inside the array keeps the canonical form. -/
theorem Memory.write_wf {bound k : Nat} {m : Memory} {v : Byte} (h : m.wf bound = true) (hk : k < bound) :
    (m.write k v).wf bound = true := Memory.write_wfFrom h (Nat.zero_le _) hk

theorem Memory.ofBytes_wfFrom {bound k : Nat} {bs : List Byte} (h : k + bs.length ≤ bound) :
    Memory.wfFrom bound k (Memory.ofBytes k bs) = true := by
  induction bs generalizing k with
  | nil => rfl
  | cons b bs ih =>
    simp only [List.length_cons] at h
    simp only [Memory.ofBytes]
    split
    · exact Memory.wfFrom_mono (ih (by omega)) (Nat.le_succ k)
    · simp only [Memory.wfFrom, Bool.and_eq_true, decide_eq_true_eq]
      exact ⟨⟨⟨Nat.le_refl k, by omega⟩, ‹_›⟩, ih (by omega)⟩

/-- The memory made of a byte list is canonical. -/
theorem Memory.ofBytes_wf {bound : Nat} {bs : List Byte} (h : bs.length ≤ bound) :
    (Memory.ofBytes 0 bs).wf bound = true := Memory.ofBytes_wfFrom (by omega)

/-- ... and holds the list's bytes in order. -/
theorem Memory.ofBytes_read {k j : Nat} {bs : List Byte} :
    (Memory.ofBytes k bs).read (k + j) = bs.getD j Memory.blank := by
  induction bs generalizing k j with
  | nil => simp [Memory.ofBytes, Memory.read]
  | cons b bs ih =>
    cases j with
    | zero =>
      simp only [Memory.ofBytes, Nat.add_zero]
      split
      · rename_i hb
        have := Memory.ofBytes_wfFrom (bound := k + 1 + bs.length) (k := k + 1) (bs := bs) (by omega)
        rw [Memory.read_below this (by omega)]; simp [hb]
      · simp [Memory.read]
    | succ j =>
      have e : k + (j + 1) = k + 1 + j := by omega
      simp only [Memory.ofBytes]
      split
      · rw [e, ih]; simp
      · rw [Memory.read, if_neg (by omega), e, ih]; simp

/-- Blank bytes are not listed. -/
theorem Memory.ofBytes_blank {k n : Nat} : Memory.ofBytes k (List.replicate n Memory.blank) = [] := by
  induction n generalizing k with
  | zero => rfl
  | succ n ih => simp [List.replicate_succ, Memory.ofBytes, ih]

theorem Memory.ext_from {bound lb : Nat} {m m' : Memory} (h : Memory.wfFrom bound lb m = true)
    (h' : Memory.wfFrom bound lb m' = true) (e : ∀ k, m.read k = m'.read k) : m = m' := by
  induction m generalizing lb m' with
  | nil =>
    cases m' with
    | nil => rfl
    | cons e' m' =>
      simp only [Memory.wfFrom, Bool.and_eq_true, decide_eq_true_eq] at h'
      have := e e'.1
      simp only [Memory.read, if_true] at this
      exact absurd this.symm h'.1.2
  | cons c m ih =>
    simp only [Memory.wfFrom, Bool.and_eq_true, decide_eq_true_eq] at h
    cases m' with
    | nil =>
      have := e c.1
      simp only [Memory.read, if_true] at this
      exact absurd this h.1.2
    | cons c' m' =>
      simp only [Memory.wfFrom, Bool.and_eq_true, decide_eq_true_eq] at h'
      obtain ⟨j, b⟩ := c
      obtain ⟨j', b'⟩ := c'
      dsimp only at h h'
      have hj : j = j' := by
        rcases Nat.lt_trichotomy j j' with hlt | heq | hgt
        · have := e j
          rw [Memory.read, if_pos rfl, Memory.read, if_neg (by omega), Memory.read_below h'.2 (by omega)] at this
          exact absurd this h.1.2
        · exact heq
        · have := e j'
          rw [Memory.read, if_neg (by omega), Memory.read_below h.2 (by omega), Memory.read, if_pos rfl] at this
          exact absurd this.symm h'.1.2
      subst hj
      have hb : b = b' := by have := e j; simpa [Memory.read] using this
      subst hb
      congr 1
      refine ih h.2 h'.2 fun k => ?_
      by_cases hk : k = j
      · subst hk
        rw [Memory.read_below h.2 (by omega), Memory.read_below h'.2 (by omega)]
      · have := e k
        simpa [Memory.read, hk] using this

/-- Canonical memories with equal contents are equal data. -/
theorem Memory.ext {bound : Nat} {m m' : Memory} (h : m.wf bound = true) (h' : m'.wf bound = true)
    (e : ∀ k, m.read k = m'.read k) : m = m' := Memory.ext_from h h' e

end Sys2Proof.Machine
end

