-- ==== Sys2Proof/Laws/State.lean ====
section
/-! SUPPORT. What each named update of the state leaves in each field, true by definition; later proofs cite these and
do not unfold a record update. -/

namespace Sys2Proof.Machine

@[simp] theorem addCycles_a (n : Nat) (s : State) : (addCycles n s).a = s.a := rfl
@[simp] theorem addCycles_x (n : Nat) (s : State) : (addCycles n s).x = s.x := rfl
@[simp] theorem addCycles_y (n : Nat) (s : State) : (addCycles n s).y = s.y := rfl
@[simp] theorem addCycles_sp (n : Nat) (s : State) : (addCycles n s).sp = s.sp := rfl
@[simp] theorem addCycles_pc (n : Nat) (s : State) : (addCycles n s).pc = s.pc := rfl
@[simp] theorem addCycles_flags (n : Nat) (s : State) : (addCycles n s).flags = s.flags := rfl
@[simp] theorem addCycles_nmiPending (n : Nat) (s : State) : (addCycles n s).nmiPending = s.nmiPending := rfl
@[simp] theorem addCycles_irqPending (n : Nat) (s : State) : (addCycles n s).irqPending = s.irqPending := rfl
@[simp] theorem addCycles_bankSel (n : Nat) (s : State) : (addCycles n s).bankSel = s.bankSel := rfl
@[simp] theorem addCycles_bankCount (n : Nat) (s : State) : (addCycles n s).bankCount = s.bankCount := rfl
@[simp] theorem addCycles_ram (n : Nat) (s : State) : (addCycles n s).ram = s.ram := rfl
@[simp] theorem addCycles_prg (n : Nat) (s : State) : (addCycles n s).prg = s.prg := rfl
@[simp] theorem addCycles_cyc (n : Nat) (s : State) : (addCycles n s).cyc = s.cyc + n := rfl
@[simp] theorem addCycles_devLog (n : Nat) (s : State) : (addCycles n s).devLog = s.devLog := rfl
@[simp] theorem addCycles_ready (n : Nat) (s : State) : (addCycles n s).ready = s.ready := rfl

@[simp] theorem devRead_a (off : Word) (s : State) : (devRead off s).2.a = s.a := rfl
@[simp] theorem devRead_x (off : Word) (s : State) : (devRead off s).2.x = s.x := rfl
@[simp] theorem devRead_y (off : Word) (s : State) : (devRead off s).2.y = s.y := rfl
@[simp] theorem devRead_sp (off : Word) (s : State) : (devRead off s).2.sp = s.sp := rfl
@[simp] theorem devRead_pc (off : Word) (s : State) : (devRead off s).2.pc = s.pc := rfl
@[simp] theorem devRead_flags (off : Word) (s : State) : (devRead off s).2.flags = s.flags := rfl
@[simp] theorem devRead_nmiPending (off : Word) (s : State) : (devRead off s).2.nmiPending = s.nmiPending := rfl
@[simp] theorem devRead_irqPending (off : Word) (s : State) : (devRead off s).2.irqPending = s.irqPending := rfl
@[simp] theorem devRead_bankSel (off : Word) (s : State) : (devRead off s).2.bankSel = s.bankSel := rfl
@[simp] theorem devRead_bankCount (off : Word) (s : State) : (devRead off s).2.bankCount = s.bankCount := rfl
@[simp] theorem devRead_ram (off : Word) (s : State) : (devRead off s).2.ram = s.ram := rfl
@[simp] theorem devRead_prg (off : Word) (s : State) : (devRead off s).2.prg = s.prg := rfl
@[simp] theorem devRead_cyc (off : Word) (s : State) : (devRead off s).2.cyc = s.cyc := rfl
@[simp] theorem devRead_devLog (off : Word) (s : State) : (devRead off s).2.devLog = s.devLog ++ [.read off (Config.devRead s.devLog.length off)] := rfl
@[simp] theorem devRead_ready (off : Word) (s : State) : (devRead off s).2.ready = s.ready := rfl

@[simp] theorem devWrite_a (off : Word) (v : Byte) (s : State) : (devWrite off v s).a = s.a := rfl
@[simp] theorem devWrite_x (off : Word) (v : Byte) (s : State) : (devWrite off v s).x = s.x := rfl
@[simp] theorem devWrite_y (off : Word) (v : Byte) (s : State) : (devWrite off v s).y = s.y := rfl
@[simp] theorem devWrite_sp (off : Word) (v : Byte) (s : State) : (devWrite off v s).sp = s.sp := rfl
@[simp] theorem devWrite_pc (off : Word) (v : Byte) (s : State) : (devWrite off v s).pc = s.pc := rfl
@[simp] theorem devWrite_flags (off : Word) (v : Byte) (s : State) : (devWrite off v s).flags = s.flags := rfl
@[simp] theorem devWrite_nmiPending (off : Word) (v : Byte) (s : State) : (devWrite off v s).nmiPending = s.nmiPending := rfl
@[simp] theorem devWrite_irqPending (off : Word) (v : Byte) (s : State) : (devWrite off v s).irqPending = s.irqPending := rfl
@[simp] theorem devWrite_bankSel (off : Word) (v : Byte) (s : State) : (devWrite off v s).bankSel = s.bankSel := rfl
@[simp] theorem devWrite_bankCount (off : Word) (v : Byte) (s : State) : (devWrite off v s).bankCount = s.bankCount := rfl
@[simp] theorem devWrite_ram (off : Word) (v : Byte) (s : State) : (devWrite off v s).ram = s.ram := rfl
@[simp] theorem devWrite_prg (off : Word) (v : Byte) (s : State) : (devWrite off v s).prg = s.prg := rfl
@[simp] theorem devWrite_cyc (off : Word) (v : Byte) (s : State) : (devWrite off v s).cyc = s.cyc := rfl
@[simp] theorem devWrite_devLog (off : Word) (v : Byte) (s : State) : (devWrite off v s).devLog = s.devLog ++ [.write off v] := rfl
@[simp] theorem devWrite_ready (off : Word) (v : Byte) (s : State) : (devWrite off v s).ready = s.ready := rfl

end Sys2Proof.Machine
end

