-- ==== Sys2Proof/Laws/Ops.lean ====
section
/-! SUPPORT. What each named operation can do: which fields it leaves alone, and one equation for each stack operation,
for interrupt entry and for the return from it. -/

namespace Sys2Proof.Machine

/-- The partition reads nothing of the state but the bank mapping (R41, R47 to R49). -/
theorem region_congr {s t : State} (hs : t.bankSel = s.bankSel) (hc : t.bankCount = s.bankCount) (addr : Word) :
    region t addr = region s addr := by
  simp [region, slotBank, hs, hc]

@[simp] theorem memRead_a (addr : Word) (s : State) : (memRead addr s).2.a = s.a := by unfold memRead; split <;> rfl
@[simp] theorem memRead_x (addr : Word) (s : State) : (memRead addr s).2.x = s.x := by unfold memRead; split <;> rfl
@[simp] theorem memRead_y (addr : Word) (s : State) : (memRead addr s).2.y = s.y := by unfold memRead; split <;> rfl
@[simp] theorem memRead_sp (addr : Word) (s : State) : (memRead addr s).2.sp = s.sp := by unfold memRead; split <;> rfl
@[simp] theorem memRead_pc (addr : Word) (s : State) : (memRead addr s).2.pc = s.pc := by unfold memRead; split <;> rfl
@[simp] theorem memRead_flags (addr : Word) (s : State) : (memRead addr s).2.flags = s.flags := by unfold memRead; split <;> rfl
@[simp] theorem memRead_nmiPending (addr : Word) (s : State) : (memRead addr s).2.nmiPending = s.nmiPending := by unfold memRead; split <;> rfl
@[simp] theorem memRead_irqPending (addr : Word) (s : State) : (memRead addr s).2.irqPending = s.irqPending := by unfold memRead; split <;> rfl
@[simp] theorem memRead_bankSel (addr : Word) (s : State) : (memRead addr s).2.bankSel = s.bankSel := by unfold memRead; split <;> rfl
@[simp] theorem memRead_bankCount (addr : Word) (s : State) : (memRead addr s).2.bankCount = s.bankCount := by unfold memRead; split <;> rfl
@[simp] theorem memRead_ram (addr : Word) (s : State) : (memRead addr s).2.ram = s.ram := by unfold memRead; split <;> rfl
@[simp] theorem memRead_prg (addr : Word) (s : State) : (memRead addr s).2.prg = s.prg := by unfold memRead; split <;> rfl
@[simp] theorem memRead_cyc (addr : Word) (s : State) : (memRead addr s).2.cyc = s.cyc := by unfold memRead; split <;> rfl
@[simp] theorem memRead_ready (addr : Word) (s : State) : (memRead addr s).2.ready = s.ready := by unfold memRead; split <;> rfl

@[simp] theorem memWrite_a (addr : Word) (v : Byte) (s : State) : (memWrite addr v s).a = s.a := by unfold memWrite; split <;> rfl
@[simp] theorem memWrite_x (addr : Word) (v : Byte) (s : State) : (memWrite addr v s).x = s.x := by unfold memWrite; split <;> rfl
@[simp] theorem memWrite_y (addr : Word) (v : Byte) (s : State) : (memWrite addr v s).y = s.y := by unfold memWrite; split <;> rfl
@[simp] theorem memWrite_sp (addr : Word) (v : Byte) (s : State) : (memWrite addr v s).sp = s.sp := by unfold memWrite; split <;> rfl
@[simp] theorem memWrite_pc (addr : Word) (v : Byte) (s : State) : (memWrite addr v s).pc = s.pc := by unfold memWrite; split <;> rfl
@[simp] theorem memWrite_flags (addr : Word) (v : Byte) (s : State) : (memWrite addr v s).flags = s.flags := by unfold memWrite; split <;> rfl
@[simp] theorem memWrite_nmiPending (addr : Word) (v : Byte) (s : State) : (memWrite addr v s).nmiPending = s.nmiPending := by unfold memWrite; split <;> rfl
@[simp] theorem memWrite_irqPending (addr : Word) (v : Byte) (s : State) : (memWrite addr v s).irqPending = s.irqPending := by unfold memWrite; split <;> rfl
@[simp] theorem memWrite_bankSel (addr : Word) (v : Byte) (s : State) : (memWrite addr v s).bankSel = s.bankSel := by unfold memWrite; split <;> rfl
@[simp] theorem memWrite_bankCount (addr : Word) (v : Byte) (s : State) : (memWrite addr v s).bankCount = s.bankCount := by unfold memWrite; split <;> rfl
@[simp] theorem memWrite_prg (addr : Word) (v : Byte) (s : State) : (memWrite addr v s).prg = s.prg := by unfold memWrite; split <;> rfl
@[simp] theorem memWrite_cyc (addr : Word) (v : Byte) (s : State) : (memWrite addr v s).cyc = s.cyc := by unfold memWrite; split <;> rfl
@[simp] theorem memWrite_ready (addr : Word) (v : Byte) (s : State) : (memWrite addr v s).ready = s.ready := by unfold memWrite; split <;> rfl

@[simp] theorem readWord_a (al ah : Word) (s : State) : (readWord al ah s).2.a = s.a := by simp [readWord]
@[simp] theorem readWord_x (al ah : Word) (s : State) : (readWord al ah s).2.x = s.x := by simp [readWord]
@[simp] theorem readWord_y (al ah : Word) (s : State) : (readWord al ah s).2.y = s.y := by simp [readWord]
@[simp] theorem readWord_sp (al ah : Word) (s : State) : (readWord al ah s).2.sp = s.sp := by simp [readWord]
@[simp] theorem readWord_pc (al ah : Word) (s : State) : (readWord al ah s).2.pc = s.pc := by simp [readWord]
@[simp] theorem readWord_flags (al ah : Word) (s : State) : (readWord al ah s).2.flags = s.flags := by simp [readWord]
@[simp] theorem readWord_nmiPending (al ah : Word) (s : State) : (readWord al ah s).2.nmiPending = s.nmiPending := by simp [readWord]
@[simp] theorem readWord_irqPending (al ah : Word) (s : State) : (readWord al ah s).2.irqPending = s.irqPending := by simp [readWord]
@[simp] theorem readWord_bankSel (al ah : Word) (s : State) : (readWord al ah s).2.bankSel = s.bankSel := by simp [readWord]
@[simp] theorem readWord_bankCount (al ah : Word) (s : State) : (readWord al ah s).2.bankCount = s.bankCount := by simp [readWord]
@[simp] theorem readWord_ram (al ah : Word) (s : State) : (readWord al ah s).2.ram = s.ram := by simp [readWord]
@[simp] theorem readWord_prg (al ah : Word) (s : State) : (readWord al ah s).2.prg = s.prg := by simp [readWord]
@[simp] theorem readWord_cyc (al ah : Word) (s : State) : (readWord al ah s).2.cyc = s.cyc := by simp [readWord]
@[simp] theorem readWord_ready (al ah : Word) (s : State) : (readWord al ah s).2.ready = s.ready := by simp [readWord]

@[simp] theorem fetch8_a (s : State) : (fetch8 s).2.a = s.a := by simp [fetch8]
@[simp] theorem fetch8_x (s : State) : (fetch8 s).2.x = s.x := by simp [fetch8]
@[simp] theorem fetch8_y (s : State) : (fetch8 s).2.y = s.y := by simp [fetch8]
@[simp] theorem fetch8_sp (s : State) : (fetch8 s).2.sp = s.sp := by simp [fetch8]
@[simp] theorem fetch8_pc (s : State) : (fetch8 s).2.pc = s.pc + 1 := by simp [fetch8]
@[simp] theorem fetch8_flags (s : State) : (fetch8 s).2.flags = s.flags := by simp [fetch8]
@[simp] theorem fetch8_nmiPending (s : State) : (fetch8 s).2.nmiPending = s.nmiPending := by simp [fetch8]
@[simp] theorem fetch8_irqPending (s : State) : (fetch8 s).2.irqPending = s.irqPending := by simp [fetch8]
@[simp] theorem fetch8_bankSel (s : State) : (fetch8 s).2.bankSel = s.bankSel := by simp [fetch8]
@[simp] theorem fetch8_bankCount (s : State) : (fetch8 s).2.bankCount = s.bankCount := by simp [fetch8]
@[simp] theorem fetch8_ram (s : State) : (fetch8 s).2.ram = s.ram := by simp [fetch8]
@[simp] theorem fetch8_prg (s : State) : (fetch8 s).2.prg = s.prg := by simp [fetch8]
@[simp] theorem fetch8_cyc (s : State) : (fetch8 s).2.cyc = s.cyc := by simp [fetch8]
@[simp] theorem fetch8_ready (s : State) : (fetch8 s).2.ready = s.ready := by simp [fetch8]

@[simp] theorem push8_a (v : Byte) (s : State) : (push8 v s).a = s.a := by simp [push8]
@[simp] theorem push8_x (v : Byte) (s : State) : (push8 v s).x = s.x := by simp [push8]
@[simp] theorem push8_y (v : Byte) (s : State) : (push8 v s).y = s.y := by simp [push8]
@[simp] theorem push8_sp (v : Byte) (s : State) : (push8 v s).sp = s.sp - 1 := by simp [push8]
@[simp] theorem push8_pc (v : Byte) (s : State) : (push8 v s).pc = s.pc := by simp [push8]
@[simp] theorem push8_flags (v : Byte) (s : State) : (push8 v s).flags = s.flags := by simp [push8]
@[simp] theorem push8_nmiPending (v : Byte) (s : State) : (push8 v s).nmiPending = s.nmiPending := by simp [push8]
@[simp] theorem push8_irqPending (v : Byte) (s : State) : (push8 v s).irqPending = s.irqPending := by simp [push8]
@[simp] theorem push8_bankSel (v : Byte) (s : State) : (push8 v s).bankSel = s.bankSel := by simp [push8]
@[simp] theorem push8_bankCount (v : Byte) (s : State) : (push8 v s).bankCount = s.bankCount := by simp [push8]
@[simp] theorem push8_prg (v : Byte) (s : State) : (push8 v s).prg = s.prg := by simp [push8]
@[simp] theorem push8_cyc (v : Byte) (s : State) : (push8 v s).cyc = s.cyc := by simp [push8]
@[simp] theorem push8_ready (v : Byte) (s : State) : (push8 v s).ready = s.ready := by simp [push8]

@[simp] theorem pull8_a (s : State) : (pull8 s).2.a = s.a := by simp [pull8]
@[simp] theorem pull8_x (s : State) : (pull8 s).2.x = s.x := by simp [pull8]
@[simp] theorem pull8_y (s : State) : (pull8 s).2.y = s.y := by simp [pull8]
@[simp] theorem pull8_sp (s : State) : (pull8 s).2.sp = s.sp + 1 := by simp [pull8]
@[simp] theorem pull8_pc (s : State) : (pull8 s).2.pc = s.pc := by simp [pull8]
@[simp] theorem pull8_flags (s : State) : (pull8 s).2.flags = s.flags := by simp [pull8]
@[simp] theorem pull8_nmiPending (s : State) : (pull8 s).2.nmiPending = s.nmiPending := by simp [pull8]
@[simp] theorem pull8_irqPending (s : State) : (pull8 s).2.irqPending = s.irqPending := by simp [pull8]
@[simp] theorem pull8_bankSel (s : State) : (pull8 s).2.bankSel = s.bankSel := by simp [pull8]
@[simp] theorem pull8_bankCount (s : State) : (pull8 s).2.bankCount = s.bankCount := by simp [pull8]
@[simp] theorem pull8_ram (s : State) : (pull8 s).2.ram = s.ram := by simp [pull8]
@[simp] theorem pull8_prg (s : State) : (pull8 s).2.prg = s.prg := by simp [pull8]
@[simp] theorem pull8_cyc (s : State) : (pull8 s).2.cyc = s.cyc := by simp [pull8]
@[simp] theorem pull8_ready (s : State) : (pull8 s).2.ready = s.ready := by simp [pull8]

@[simp] theorem push16_a (w : Word) (s : State) : (push16 w s).a = s.a := by simp [push16]
@[simp] theorem push16_x (w : Word) (s : State) : (push16 w s).x = s.x := by simp [push16]
@[simp] theorem push16_y (w : Word) (s : State) : (push16 w s).y = s.y := by simp [push16]
@[simp] theorem push16_sp (w : Word) (s : State) : (push16 w s).sp = s.sp - 2 := by simp [push16]; bv_omega
@[simp] theorem push16_pc (w : Word) (s : State) : (push16 w s).pc = s.pc := by simp [push16]
@[simp] theorem push16_flags (w : Word) (s : State) : (push16 w s).flags = s.flags := by simp [push16]
@[simp] theorem push16_nmiPending (w : Word) (s : State) : (push16 w s).nmiPending = s.nmiPending := by simp [push16]
@[simp] theorem push16_irqPending (w : Word) (s : State) : (push16 w s).irqPending = s.irqPending := by simp [push16]
@[simp] theorem push16_bankSel (w : Word) (s : State) : (push16 w s).bankSel = s.bankSel := by simp [push16]
@[simp] theorem push16_bankCount (w : Word) (s : State) : (push16 w s).bankCount = s.bankCount := by simp [push16]
@[simp] theorem push16_prg (w : Word) (s : State) : (push16 w s).prg = s.prg := by simp [push16]
@[simp] theorem push16_cyc (w : Word) (s : State) : (push16 w s).cyc = s.cyc := by simp [push16]
@[simp] theorem push16_ready (w : Word) (s : State) : (push16 w s).ready = s.ready := by simp [push16]

@[simp] theorem pull16_a (s : State) : (pull16 s).2.a = s.a := by simp [pull16]
@[simp] theorem pull16_x (s : State) : (pull16 s).2.x = s.x := by simp [pull16]
@[simp] theorem pull16_y (s : State) : (pull16 s).2.y = s.y := by simp [pull16]
@[simp] theorem pull16_sp (s : State) : (pull16 s).2.sp = s.sp + 2 := by simp [pull16]; bv_omega
@[simp] theorem pull16_pc (s : State) : (pull16 s).2.pc = s.pc := by simp [pull16]
@[simp] theorem pull16_flags (s : State) : (pull16 s).2.flags = s.flags := by simp [pull16]
@[simp] theorem pull16_nmiPending (s : State) : (pull16 s).2.nmiPending = s.nmiPending := by simp [pull16]
@[simp] theorem pull16_irqPending (s : State) : (pull16 s).2.irqPending = s.irqPending := by simp [pull16]
@[simp] theorem pull16_bankSel (s : State) : (pull16 s).2.bankSel = s.bankSel := by simp [pull16]
@[simp] theorem pull16_bankCount (s : State) : (pull16 s).2.bankCount = s.bankCount := by simp [pull16]
@[simp] theorem pull16_ram (s : State) : (pull16 s).2.ram = s.ram := by simp [pull16]
@[simp] theorem pull16_prg (s : State) : (pull16 s).2.prg = s.prg := by simp [pull16]
@[simp] theorem pull16_cyc (s : State) : (pull16 s).2.cyc = s.cyc := by simp [pull16]
@[simp] theorem pull16_ready (s : State) : (pull16 s).2.ready = s.ready := by simp [pull16]

/-- The index in RAM of the byte the stack pointer designates (R20). -/
def stackCell (sp : Byte) : Nat := 256 + sp.toNat

theorem stackCell_lt (sp : Byte) : stackCell sp < config.ramSize := by
  have := sp.isLt
  simp [stackCell, config]; omega

/-- A stack access never leaves the stack region, which is RAM (R20). -/
theorem region_stackAddr (s : State) (sp : Byte) : region s (stackAddr sp) = .ram (stackCell sp) := by
  have h := sp.isLt
  have e : (stackAddr sp).toNat = 256 + sp.toNat := by
    simp [stackAddr, config, zext16]; omega
  have hw : ramWindow (stackAddr sp) := by
    refine ⟨Nat.zero_le _, ?_⟩
    rw [BitVec.le_def, e]; simp [config]; omega
  simp only [region, if_pos hw, e, stackCell]
  congr 1
  simp [config]; omega

/-- R21 as one equation. -/
theorem push8_eq (v : Byte) (s : State) :
    push8 v s = { s with ram := s.ram.write (stackCell s.sp) v, sp := s.sp - 1 } := by
  simp [push8, memWrite, region_stackAddr]

/-- R22 as one equation. -/
theorem pull8_eq (s : State) : pull8 s = (s.ram.read (stackCell (s.sp + 1)), { s with sp := s.sp + 1 }) := by
  simp [pull8, memRead, region_stackAddr]

/-- R23: the word pushed lies in memory little-endian. -/
theorem push16_eq (w : Word) (s : State) :
    push16 w s = { s with
      ram := (s.ram.write (stackCell s.sp) (hi w)).write (stackCell (s.sp - 1)) (lo w)
      sp := s.sp - 2 } := by
  have e : s.sp - 1 - 1 = s.sp - 2 := by bv_omega
  simp only [push16, push8_eq, e]

/-- R23: the low byte comes off first. -/
theorem pull16_eq (s : State) :
    pull16 s = (word (s.ram.read (stackCell (s.sp + 2))) (s.ram.read (stackCell (s.sp + 1))),
      { s with sp := s.sp + 2 }) := by
  have e : s.sp + 1 + 1 = s.sp + 2 := by bv_omega
  simp only [pull16, pull8_eq, e]

end Sys2Proof.Machine
end

