-- ==== Sys2Proof/Laws/Operands.lean ====
section
/-! SUPPORT. The laws of the resolver and of operand access: they leave every field but the device record (and, for a
write, `A` or one byte of RAM); and which region an address is in. -/

namespace Sys2Proof.Machine

@[simp] theorem resolve_a (o : Operand) (s : State) : (resolve o s).2.a = s.a := by cases o <;> simp [resolve]
@[simp] theorem resolve_x (o : Operand) (s : State) : (resolve o s).2.x = s.x := by cases o <;> simp [resolve]
@[simp] theorem resolve_y (o : Operand) (s : State) : (resolve o s).2.y = s.y := by cases o <;> simp [resolve]
@[simp] theorem resolve_sp (o : Operand) (s : State) : (resolve o s).2.sp = s.sp := by cases o <;> simp [resolve]
@[simp] theorem resolve_pc (o : Operand) (s : State) : (resolve o s).2.pc = s.pc := by cases o <;> simp [resolve]
@[simp] theorem resolve_flags (o : Operand) (s : State) : (resolve o s).2.flags = s.flags := by cases o <;> simp [resolve]
@[simp] theorem resolve_nmiPending (o : Operand) (s : State) : (resolve o s).2.nmiPending = s.nmiPending := by cases o <;> simp [resolve]
@[simp] theorem resolve_irqPending (o : Operand) (s : State) : (resolve o s).2.irqPending = s.irqPending := by cases o <;> simp [resolve]
@[simp] theorem resolve_bankSel (o : Operand) (s : State) : (resolve o s).2.bankSel = s.bankSel := by cases o <;> simp [resolve]
@[simp] theorem resolve_bankCount (o : Operand) (s : State) : (resolve o s).2.bankCount = s.bankCount := by cases o <;> simp [resolve]
@[simp] theorem resolve_ram (o : Operand) (s : State) : (resolve o s).2.ram = s.ram := by cases o <;> simp [resolve]
@[simp] theorem resolve_prg (o : Operand) (s : State) : (resolve o s).2.prg = s.prg := by cases o <;> simp [resolve]
@[simp] theorem resolve_cyc (o : Operand) (s : State) : (resolve o s).2.cyc = s.cyc := by cases o <;> simp [resolve]
@[simp] theorem resolve_ready (o : Operand) (s : State) : (resolve o s).2.ready = s.ready := by cases o <;> simp [resolve]

@[simp] theorem readOperand_a (src : OperandSource) (s : State) : (readOperand src s).2.a = s.a := by cases src <;> simp [readOperand]
@[simp] theorem readOperand_x (src : OperandSource) (s : State) : (readOperand src s).2.x = s.x := by cases src <;> simp [readOperand]
@[simp] theorem readOperand_y (src : OperandSource) (s : State) : (readOperand src s).2.y = s.y := by cases src <;> simp [readOperand]
@[simp] theorem readOperand_sp (src : OperandSource) (s : State) : (readOperand src s).2.sp = s.sp := by cases src <;> simp [readOperand]
@[simp] theorem readOperand_pc (src : OperandSource) (s : State) : (readOperand src s).2.pc = s.pc := by cases src <;> simp [readOperand]
@[simp] theorem readOperand_flags (src : OperandSource) (s : State) : (readOperand src s).2.flags = s.flags := by cases src <;> simp [readOperand]
@[simp] theorem readOperand_nmiPending (src : OperandSource) (s : State) : (readOperand src s).2.nmiPending = s.nmiPending := by cases src <;> simp [readOperand]
@[simp] theorem readOperand_irqPending (src : OperandSource) (s : State) : (readOperand src s).2.irqPending = s.irqPending := by cases src <;> simp [readOperand]
@[simp] theorem readOperand_bankSel (src : OperandSource) (s : State) : (readOperand src s).2.bankSel = s.bankSel := by cases src <;> simp [readOperand]
@[simp] theorem readOperand_bankCount (src : OperandSource) (s : State) : (readOperand src s).2.bankCount = s.bankCount := by cases src <;> simp [readOperand]
@[simp] theorem readOperand_ram (src : OperandSource) (s : State) : (readOperand src s).2.ram = s.ram := by cases src <;> simp [readOperand]
@[simp] theorem readOperand_prg (src : OperandSource) (s : State) : (readOperand src s).2.prg = s.prg := by cases src <;> simp [readOperand]
@[simp] theorem readOperand_cyc (src : OperandSource) (s : State) : (readOperand src s).2.cyc = s.cyc := by cases src <;> simp [readOperand]
@[simp] theorem readOperand_ready (src : OperandSource) (s : State) : (readOperand src s).2.ready = s.ready := by cases src <;> simp [readOperand]

@[simp] theorem operandValue_a (o : Operand) (s : State) : (operandValue o s).2.a = s.a := by simp [operandValue]
@[simp] theorem operandValue_x (o : Operand) (s : State) : (operandValue o s).2.x = s.x := by simp [operandValue]
@[simp] theorem operandValue_y (o : Operand) (s : State) : (operandValue o s).2.y = s.y := by simp [operandValue]
@[simp] theorem operandValue_sp (o : Operand) (s : State) : (operandValue o s).2.sp = s.sp := by simp [operandValue]
@[simp] theorem operandValue_pc (o : Operand) (s : State) : (operandValue o s).2.pc = s.pc := by simp [operandValue]
@[simp] theorem operandValue_flags (o : Operand) (s : State) : (operandValue o s).2.flags = s.flags := by simp [operandValue]
@[simp] theorem operandValue_nmiPending (o : Operand) (s : State) : (operandValue o s).2.nmiPending = s.nmiPending := by simp [operandValue]
@[simp] theorem operandValue_irqPending (o : Operand) (s : State) : (operandValue o s).2.irqPending = s.irqPending := by simp [operandValue]
@[simp] theorem operandValue_bankSel (o : Operand) (s : State) : (operandValue o s).2.bankSel = s.bankSel := by simp [operandValue]
@[simp] theorem operandValue_bankCount (o : Operand) (s : State) : (operandValue o s).2.bankCount = s.bankCount := by simp [operandValue]
@[simp] theorem operandValue_ram (o : Operand) (s : State) : (operandValue o s).2.ram = s.ram := by simp [operandValue]
@[simp] theorem operandValue_prg (o : Operand) (s : State) : (operandValue o s).2.prg = s.prg := by simp [operandValue]
@[simp] theorem operandValue_cyc (o : Operand) (s : State) : (operandValue o s).2.cyc = s.cyc := by simp [operandValue]
@[simp] theorem operandValue_ready (o : Operand) (s : State) : (operandValue o s).2.ready = s.ready := by simp [operandValue]

@[simp] theorem writeOperand_x (src : OperandSource) (v : Byte) (s : State) : (writeOperand src v s).x = s.x := by cases src <;> simp [writeOperand]
@[simp] theorem writeOperand_y (src : OperandSource) (v : Byte) (s : State) : (writeOperand src v s).y = s.y := by cases src <;> simp [writeOperand]
@[simp] theorem writeOperand_sp (src : OperandSource) (v : Byte) (s : State) : (writeOperand src v s).sp = s.sp := by cases src <;> simp [writeOperand]
@[simp] theorem writeOperand_pc (src : OperandSource) (v : Byte) (s : State) : (writeOperand src v s).pc = s.pc := by cases src <;> simp [writeOperand]
@[simp] theorem writeOperand_flags (src : OperandSource) (v : Byte) (s : State) : (writeOperand src v s).flags = s.flags := by cases src <;> simp [writeOperand]
@[simp] theorem writeOperand_nmiPending (src : OperandSource) (v : Byte) (s : State) : (writeOperand src v s).nmiPending = s.nmiPending := by cases src <;> simp [writeOperand]
@[simp] theorem writeOperand_irqPending (src : OperandSource) (v : Byte) (s : State) : (writeOperand src v s).irqPending = s.irqPending := by cases src <;> simp [writeOperand]
@[simp] theorem writeOperand_bankSel (src : OperandSource) (v : Byte) (s : State) : (writeOperand src v s).bankSel = s.bankSel := by cases src <;> simp [writeOperand]
@[simp] theorem writeOperand_bankCount (src : OperandSource) (v : Byte) (s : State) : (writeOperand src v s).bankCount = s.bankCount := by cases src <;> simp [writeOperand]
@[simp] theorem writeOperand_prg (src : OperandSource) (v : Byte) (s : State) : (writeOperand src v s).prg = s.prg := by cases src <;> simp [writeOperand]
@[simp] theorem writeOperand_cyc (src : OperandSource) (v : Byte) (s : State) : (writeOperand src v s).cyc = s.cyc := by cases src <;> simp [writeOperand]
@[simp] theorem writeOperand_ready (src : OperandSource) (v : Byte) (s : State) : (writeOperand src v s).ready = s.ready := by cases src <;> simp [writeOperand]

/-- R41: "every address in range resolves to exactly one owning region". -/
theorem windows_partition (a : Word) :
    (ramWindow a ∧ ¬ deviceWindow a ∧ ¬ prgWindow a) ∨ (¬ ramWindow a ∧ deviceWindow a ∧ ¬ prgWindow a) ∨
      (¬ ramWindow a ∧ ¬ deviceWindow a ∧ prgWindow a) := by
  simp only [ramWindow, deviceWindow, prgWindow, config]
  bv_omega

theorem region_ram (s : State) {a : Word} (h : a ≤ 0x1FFF) : region s a = .ram (a.toNat % 2048) :=
  if_pos ⟨Nat.zero_le _, h⟩

theorem region_device (s : State) {a : Word} (h : 0x2000 ≤ a) (h' : a ≤ 0x7FFF) : region s a = .device (a - 0x2000) := by
  have hn : ¬ ramWindow a := fun hr => by
    have := hr.2
    simp only [config] at this
    bv_omega
  exact (if_neg hn).trans (if_pos ⟨h, h'⟩)

theorem region_prg (s : State) {a : Word} (h : 0x8000 ≤ a) :
    region s a = .prg (slotBank s ((a.toNat - 0x8000) / 16384) * 16384 + a.toNat % 16384) := by
  have hn : ¬ ramWindow a := fun hr => by
    have := hr.2
    simp only [config] at this
    bv_omega
  have hn' : ¬ deviceWindow a := fun hd => by
    have := hd.2
    simp only [config] at this
    bv_omega
  have hp : prgWindow a := ⟨h, by simp only [config]; bv_omega⟩
  have e : (a - (0x8000 : Word)).toNat = a.toNat - 0x8000 := by bv_omega
  rw [← e]
  exact (if_neg hn).trans ((if_neg hn').trans (if_pos hp))

/-- A zero-page address is the RAM byte of that index. -/
theorem region_zeroPage (s : State) (b : Byte) : region s (zext16 b) = .ram b.toNat := by
  have hb := b.isLt
  have e : (zext16 b).toNat = b.toNat := by simp [zext16]; omega
  have hle : zext16 b ≤ (0x1FFF : Word) := by
    rw [BitVec.le_def, e, show (0x1FFF : Word).toNat = 0x1FFF from rfl]; omega
  rw [region_ram s hle, e, Nat.mod_eq_of_lt (by omega)]

theorem memRead_zeroPage (b : Byte) (s : State) : memRead (zext16 b) s = (s.ram.read b.toNat, s) := by
  simp [memRead, region_zeroPage]

theorem readWord_zeroPage (p q : Byte) (s : State) :
    readWord (zext16 p) (zext16 q) s = (word (s.ram.read q.toNat) (s.ram.read p.toNat), s) := by
  simp [readWord, memRead_zeroPage]

/-- The word at a vector is a word of the last bank (R55), and reading it makes no device access. -/
theorem readWord_vector (s : State) {al ah : Word} (hl : 0xC000 ≤ al) (hh : 0xC000 ≤ ah) :
    readWord al ah s =
      (word (s.prg.read ((s.bankCount - 1) * 16384 + ah.toNat % 16384))
        (s.prg.read ((s.bankCount - 1) * 16384 + al.toNat % 16384)), s) := by
  have slot : ∀ {a : Word}, 0xC000 ≤ a → (a.toNat - 0x8000) / 16384 = 1 := by
    intro a h
    have := a.isLt
    have : 0xC000 ≤ a.toNat := h
    omega
  have low : ∀ {a : Word}, 0xC000 ≤ a → (0x8000 : Word) ≤ a := by intro a h; bv_omega
  simp [readWord, memRead, region_prg s (low hl), region_prg s (low hh), slot hl, slot hh, slotBank]

theorem toNat_word (h l : Byte) : (word h l).toNat = h.toNat * 256 + l.toNat := by
  have := l.isLt
  simp only [word, BitVec.toNat_append, Nat.shiftLeft_eq]
  rw [Nat.mul_comm, ← Nat.two_pow_add_eq_or_of_lt (by simpa using this) h.toNat]

theorem toNat_lo (w : Word) : (lo w).toNat = w.toNat % 256 := by simp [lo]

theorem toNat_hi (w : Word) : (hi w).toNat = w.toNat / 256 := by
  have := w.isLt
  simp [hi, Nat.shiftRight_eq_div_pow]; omega

/-- A word is its two bytes. -/
theorem word_hi_lo (w : Word) : word (hi w) (lo w) = w := by
  apply BitVec.eq_of_toNat_eq
  rw [toNat_word, toNat_lo, toNat_hi]; omega

theorem hi_word (h l : Byte) : hi (word h l) = h := by
  apply BitVec.eq_of_toNat_eq
  have := l.isLt
  rw [toNat_hi, toNat_word]; omega

theorem lo_word (h l : Byte) : lo (word h l) = l := by
  apply BitVec.eq_of_toNat_eq
  have := l.isLt
  rw [toNat_lo, toNat_word]; omega

theorem toNat_zext16 (b : Byte) : (zext16 b).toNat = b.toNat := by
  have := b.isLt
  simp [zext16]; omega

theorem bit7_eq_msb (b : Byte) : bit b 7 = b.msb := by simp [bit, BitVec.msb_eq_getLsbD_last]

end Sys2Proof.Machine
end

