-- ==== Sys2Proof/Laws/Exec.lean ====
section
/-! SUPPORT. What `exec` can do, said once: each operation has one shape (read, store, modify, or one of its own), and
`exec` of any instruction of that operation is that shape on the instruction's operand. -/

namespace Sys2Proof.Machine

/-- The effect of an operation that reads its operand; none for the others. -/
def readEffect : Op → Option (Byte → State → State)
  | .lda => some ldaEffect
  | .ldx => some ldxEffect
  | .ldy => some ldyEffect
  | .adc => some adcEffect
  | .sbc => some sbcEffect
  | .and => some andEffect
  | .ora => some oraEffect
  | .eor => some eorEffect
  | .bit => some bitEffect
  | .cmp => some cmpEffect
  | .cpx => some cpxEffect
  | .cpy => some cpyEffect
  | _ => none

/-- The register a store writes. -/
def storedRegister : Op → Option (State → Byte)
  | .sta => some State.a
  | .stx => some State.x
  | .sty => some State.y
  | _ => none

/-- The function of a read-modify-write operation. -/
def modifyFunction : Op → Option (Byte → Flags → Byte × Flags)
  | .inc => some increment
  | .dec => some decrement
  | .asl => some shiftLeft
  | .lsr => some shiftRight
  | .rol => some rotateLeft
  | .ror => some rotateRight
  | _ => none

/-- The effect and cycle count of an operation without operand, but for BRK and RTI. -/
def impliedEffect : Op → Option ((State → State) × Nat)
  | .tax => some (taxEffect, 2)
  | .tay => some (tayEffect, 2)
  | .txa => some (txaEffect, 2)
  | .tya => some (tyaEffect, 2)
  | .tsx => some (tsxEffect, 2)
  | .txs => some (txsEffect, 2)
  | .inx => some (inxEffect, 2)
  | .iny => some (inyEffect, 2)
  | .dex => some (dexEffect, 2)
  | .dey => some (deyEffect, 2)
  | .clc => some (clcEffect, 2)
  | .sec => some (secEffect, 2)
  | .cli => some (cliEffect, 2)
  | .sei => some (seiEffect, 2)
  | .cld => some (cldEffect, 2)
  | .sed => some (sedEffect, 2)
  | .clv => some (clvEffect, 2)
  | .nop => some (id, 2)
  | .pha => some (phaEffect, 3)
  | .php => some (phpEffect, 3)
  | .pla => some (plaEffect, 4)
  | .plp => some (plpEffect, 4)
  | .rts => some (rtsEffect, 6)
  | _ => none

/-- The condition of a branch. -/
def branchCondition : Op → Option (State → Bool)
  | .bcc => some fun s => !s.flags.c
  | .bcs => some fun s => s.flags.c
  | .beq => some fun s => s.flags.z
  | .bmi => some fun s => s.flags.n
  | .bne => some fun s => !s.flags.z
  | .bpl => some fun s => !s.flags.n
  | .bvc => some fun s => !s.flags.v
  | .bvs => some fun s => s.flags.v
  | _ => none

/-- The next state of a read, a store and a memory or accumulator read-modify-write. -/
def readState (i : Instr) (f : Byte → State → State) (s : State) : State :=
  addCycles (readCycles i.mode (resolve i.operand s).1.crossed) (f (operandValue i.operand s).1 (operandValue i.operand s).2)

def storeState (i : Instr) (reg : State → Byte) (s : State) : State :=
  addCycles (writeCycles i.mode) (writeOperand (resolve i.operand s).1 (reg s) (resolve i.operand s).2)

def modifyState (i : Instr) (f : Byte → Flags → Byte × Flags) (s : State) : State :=
  let q := f (operandValue i.operand s).1 s.flags
  addCycles (modifyCycles i.mode)
    { writeOperand (resolve i.operand s).1 q.1 (operandValue i.operand s).2 with flags := q.2 }

/-- The next state of a branch with offset `r`. -/
def branchState (cond : Bool) (r : Byte) (s : State) : State :=
  if cond then
    addCycles (3 + crossCycle true (resolve (.relative r) s).1) { s with pc := (resolve (.relative r) s).1.ea }
  else addCycles 2 s

theorem exec_reads {i : Instr} {f : Byte → State → State} (h : readEffect i.op = some f) (s : State) :
    exec i s = .next (readState i f s) := by
  cases i <;> simp only [Instr.op, readEffect, Option.some.injEq, reduceCtorEq] at h <;> subst h <;> rfl

theorem exec_stores {i : Instr} {reg : State → Byte} (h : storedRegister i.op = some reg) (s : State) :
    exec i s = .next (storeState i reg s) := by
  cases i <;> simp only [Instr.op, storedRegister, Option.some.injEq, reduceCtorEq] at h <;> subst h <;> rfl

theorem exec_modifies {i : Instr} {f : Byte → Flags → Byte × Flags} (h : modifyFunction i.op = some f) (s : State) :
    exec i s = .next (modifyState i f s) := by
  have e : ∀ o : Operand, (readOperand (resolve o s).1 (resolve o s).2).2.flags = s.flags := by simp
  cases i <;> simp only [Instr.op, modifyFunction, Option.some.injEq, reduceCtorEq] at h <;> subst h <;>
    simp only [modifyState, operandValue] <;> rw [← e] <;> rfl

theorem exec_implied {i : Instr} {f : State → State} {n : Nat} (h : impliedEffect i.op = some (f, n)) (s : State) :
    exec i s = .next (addCycles n (f s)) := by
  cases i <;> simp only [Instr.op, impliedEffect, Option.some.injEq, reduceCtorEq, Prod.mk.injEq] at h <;>
    obtain ⟨rfl, rfl⟩ := h <;> rfl

theorem exec_branches {i : Instr} {cond : State → Bool} (h : branchCondition i.op = some cond) (s : State) :
    ∃ r, i.operand = .relative r ∧ exec i s = .next (branchState (cond s) r s) := by
  cases i <;> simp only [Instr.op, branchCondition, Option.some.injEq, reduceCtorEq] at h <;> subst h <;>
    refine ⟨_, rfl, ?_⟩ <;> simp only [exec, execBcc, execBcs, execBeq, execBmi, execBne, execBpl, execBvc, execBvs,
      branch, branchState, resolve] <;> split <;> rfl

/-- Every instruction completes, in one of ten shapes (R220 (5)). -/
theorem exec_shape (i : Instr) (s : State) :
    (∃ f, readEffect i.op = some f ∧ exec i s = .next (readState i f s)) ∨
    (∃ reg, storedRegister i.op = some reg ∧ exec i s = .next (storeState i reg s)) ∨
    (∃ f, modifyFunction i.op = some f ∧ exec i s = .next (modifyState i f s)) ∨
    (∃ f n, impliedEffect i.op = some (f, n) ∧ exec i s = .next (addCycles n (f s))) ∨
    (∃ cond r, branchCondition i.op = some cond ∧ i.operand = .relative r
      ∧ exec i s = .next (branchState (cond s) r s)) ∨
    (∃ w, i = .jmpAbs w ∧ exec i s = .next (addCycles 3 { s with pc := w })) ∨
    (∃ w, i = .jmpInd w ∧ exec i s = .next (addCycles 5
      { (resolve (.indirect w) s).2 with pc := (resolve (.indirect w) s).1.ea })) ∨
    (∃ w, i = .jsr w ∧ exec i s = .next (addCycles 6 { push16 (s.pc - 1) s with pc := w })) ∨
    (i = .brk ∧ exec i s = .next (breakEffect s)) ∨
    (i = .rti ∧ exec i s = .next (returnFromInterrupt s)) := by
  cases hr : readEffect i.op with
  | some f => exact .inl ⟨f, rfl, exec_reads hr s⟩
  | none =>
  cases hs : storedRegister i.op with
  | some reg => exact .inr (.inl ⟨reg, rfl, exec_stores hs s⟩)
  | none =>
  cases hm : modifyFunction i.op with
  | some f => exact .inr (.inr (.inl ⟨f, rfl, exec_modifies hm s⟩))
  | none =>
  cases hi : impliedEffect i.op with
  | some p => exact .inr (.inr (.inr (.inl ⟨p.1, p.2, rfl, exec_implied hi s⟩)))
  | none =>
  cases hb : branchCondition i.op with
  | some cond =>
    obtain ⟨r, ho, he⟩ := exec_branches hb s
    exact .inr (.inr (.inr (.inr (.inl ⟨cond, r, rfl, ho, he⟩))))
  | none =>
  iterate 5 right
  cases i with
  | jmpAbs w => exact .inl ⟨w, rfl, rfl⟩
  | jmpInd w => exact .inr (.inl ⟨w, rfl, rfl⟩)
  | jsr w => exact .inr (.inr (.inl ⟨w, rfl, rfl⟩))
  | brk => exact .inr (.inr (.inr (.inl ⟨rfl, rfl⟩)))
  | rti => exact .inr (.inr (.inr (.inr ⟨rfl, rfl⟩)))
  | _ => simp [Instr.op, readEffect, storedRegister, modifyFunction, impliedEffect, branchCondition] at hr hs hm hi hb

/-- No instruction is refused and none faults (R222). -/
theorem exec_completes (i : Instr) (s : State) : completes (exec i s) := by
  rcases exec_shape i s with ⟨_, _, h⟩ | ⟨_, _, h⟩ | ⟨_, _, h⟩ | ⟨_, _, _, h⟩ | ⟨_, _, _, _, h⟩ | ⟨_, _, h⟩ |
    ⟨_, _, h⟩ | ⟨_, _, h⟩ | ⟨_, h⟩ | ⟨_, h⟩ <;> exact ⟨_, h⟩

end Sys2Proof.Machine
end

