-- ==== Sys2Proof/Laws/Interrupt.lean ====
section
/-! SUPPORT. The status byte, interrupt entry and return from interrupt as closed equations on the state. -/

namespace Sys2Proof.Machine

/-- R18: the pushed byte, bit by bit. -/
theorem packP_stored (soft : Bool) (f : Flags) : packP .stored soft f = statusByte f := by
  obtain ⟨c, z, i, d, b, v, n⟩ := f
  revert c z i d b v n; cases soft <;> decide

/-- R18, R19: unpacking a pushed status byte gives the flags back. -/
theorem unpackP_statusByte (f old : Flags) : unpackP .stored (statusByte f) old = f := by
  obtain ⟨c, z, i, d, b, v, n⟩ := f
  have h : ∀ c z i d b v n : Bool,
      unpackP .stored (statusByte ⟨c, z, i, d, b, v, n⟩) ⟨c, z, i, d, b, v, n⟩ = ⟨c, z, i, d, b, v, n⟩ := by decide
  exact h c z i d b v n

/-- R227 `InterruptEntry(vec)` for a vector at an even offset of the last bank's top. -/
theorem enterInterrupt_eq (soft : Bool) {vec : Word} (h : 0xC000 ≤ vec) (h' : 0xC000 ≤ vec + 1) (s : State) :
    enterInterrupt soft vec s = { s with
      ram := pushedFrame s s.pc (statusByte s.flags)
      sp := s.sp - 3
      flags := { s.flags with i := true }
      pc := word (s.prg.read ((s.bankCount - 1) * 16384 + (vec + 1).toNat % 16384))
        (s.prg.read ((s.bankCount - 1) * 16384 + vec.toNat % 16384))
      cyc := s.cyc + 7 } := by
  have e : s.sp - 2 - 1 = s.sp - 3 := by bv_omega
  simp only [enterInterrupt, readWord_vector _ h h', push8_eq, push16_eq, addCycles, e]
  rw [show config.breakModel = BreakModel.stored from rfl, packP_stored]
  rfl

theorem enterNmi_eq (soft : Bool) (s : State) :
    enterInterrupt soft config.vecNmi s = { s with
      ram := pushedFrame s s.pc (statusByte s.flags), sp := s.sp - 3, flags := { s.flags with i := true }
      pc := lastBankWord s 0x3FFA, cyc := s.cyc + 7 } :=
  enterInterrupt_eq soft (by decide) (by decide) s

theorem enterIrq_eq (soft : Bool) (s : State) :
    enterInterrupt soft config.vecIrq s = { s with
      ram := pushedFrame s s.pc (statusByte s.flags), sp := s.sp - 3, flags := { s.flags with i := true }
      pc := lastBankWord s 0x3FFE, cyc := s.cyc + 7 } :=
  enterInterrupt_eq soft (by decide) (by decide) s

/-- R214: three stack reads, nothing else. -/
theorem returnFromInterrupt_eq (s : State) :
    returnFromInterrupt s = { s with
      flags := unpackP .stored (stackByte s (s.sp + 1)) s.flags
      sp := s.sp + 3
      pc := word (stackByte s (s.sp + 3)) (stackByte s (s.sp + 2))
      cyc := s.cyc + 6 } := by
  have e1 : s.sp + 1 + 1 = s.sp + 2 := by bv_omega
  have e2 : s.sp + 1 + 2 = s.sp + 3 := by bv_omega
  simp only [returnFromInterrupt, pull8_eq, pull16_eq, addCycles, e1, e2]
  rfl

/-- The state BRK leaves (R213). -/
theorem breakEffect_eq (s : State) :
    breakEffect s = { s with
      ram := pushedFrame s (s.pc + 1) (statusByte { s.flags with b := true })
      sp := s.sp - 3
      flags := { s.flags with b := true, i := true }
      pc := lastBankWord s 0x3FFE
      cyc := s.cyc + 7 } := by
  rw [breakEffect, enterIrq_eq]; rfl

/-- The step's interrupt check services nothing exactly when the state is quiet (R226). -/
theorem serviceInterrupt_eq_none {s : State} : serviceInterrupt s = none ↔ s.quiet := by
  unfold serviceInterrupt State.quiet
  cases s.nmiPending <;> cases s.irqPending <;> cases s.flags.i <;> simp

/-- A serviced interrupt is the shared entry on the state with that latch cleared (R227, R228). -/
theorem serviceInterrupt_eq_some {s t : State} (h : serviceInterrupt s = some t) :
    (s.nmiPending = true ∧ t = enterInterrupt false config.vecNmi { s with nmiPending := false }) ∨
    (s.nmiPending = false ∧ s.irqPending = true ∧ s.flags.i = false
      ∧ t = enterInterrupt false config.vecIrq { s with irqPending := false }) := by
  unfold serviceInterrupt at h
  split at h
  · rename_i hn
    exact .inl ⟨hn, (Option.some.inj h).symm⟩
  · split at h
    · rename_i hn hi
      simp only [Bool.and_eq_true, Bool.not_eq_true'] at hi
      exact .inr ⟨by simpa using hn, hi.1, hi.2, (Option.some.inj h).symm⟩
    · cases h

end Sys2Proof.Machine
end

