-- ==== Sys2Proof/Laws/Invariant.lean ====
section
/-! SUPPORT. Every operation over the machine's memory keeps RAM in canonical form, and what a bus write leaves as it
was. -/

namespace Sys2Proof.Machine

/-- An address of RAM lies in the RAM window and names the byte at its index (R45). -/
theorem region_ram_iff {s : State} {a : Word} {c : Nat} :
    region s a = .ram c ↔ ramWindow a ∧ c = a.toNat % config.ramSize := by
  constructor
  · intro h
    unfold region at h
    split at h
    · rename_i ha; cases h; exact ⟨ha, rfl⟩
    · split at h
      · cases h
      · split at h <;> cases h
  · rintro ⟨h, rfl⟩
    exact region_ram s h.2

/-- The index of a RAM address is inside the array (R45). -/
theorem region_ram_lt {s : State} {a : Word} {c : Nat} (h : region s a = .ram c) : c < config.ramSize :=
  (region_ram_iff.mp h).2 ▸ Nat.mod_lt _ (by decide)

/-- An address of program data names a byte of one bank at its offset (R47). -/
theorem region_prg_eq {s : State} {a : Word} {k : Nat} (h : region s a = .prg k) :
    k = slotBank s ((a - config.prgLo).toNat / config.bankSize) * config.bankSize + a.toNat % config.bankSize := by
  unfold region at h
  split at h
  · cases h
  · split at h
    · cases h
    · split at h <;> cases h
      rfl

theorem memWrite_ram_wf {a : Word} {v : Byte} {s : State} (h : s.ram.wf config.ramSize = true) :
    (memWrite a v s).ram.wf config.ramSize = true := by
  unfold memWrite
  split
  · exact Memory.write_wf h (region_ram_lt (by assumption))
  · exact h
  · exact h

theorem writeOperand_ram_wf {src : OperandSource} {v : Byte} {s : State} (h : s.ram.wf config.ramSize = true) :
    (writeOperand src v s).ram.wf config.ramSize = true := by
  cases src with
  | addr ea c => exact memWrite_ram_wf h
  | imm _ => exact h
  | noOperand => exact h

theorem push8_ram_wf {v : Byte} {s : State} (h : s.ram.wf config.ramSize = true) :
    (push8 v s).ram.wf config.ramSize = true := by
  rw [push8_eq]; exact Memory.write_wf h (stackCell_lt _)

theorem push16_ram_wf {w : Word} {s : State} (h : s.ram.wf config.ramSize = true) :
    (push16 w s).ram.wf config.ramSize = true := push8_ram_wf (push8_ram_wf h)

theorem pushedFrame_wf {s : State} {w : Word} {p : Byte} (h : s.ram.wf config.ramSize = true) :
    (pushedFrame s w p).wf config.ramSize = true :=
  Memory.write_wf (Memory.write_wf (Memory.write_wf h (stackCell_lt _)) (stackCell_lt _)) (stackCell_lt _)

/-- The host's placing of a byte keeps a legal state legal. -/
theorem poke_inv {a : Word} {v : Byte} {s : State} (h : s.Inv) : (poke a v s).Inv := by
  obtain ⟨h1, h2, h3, h4⟩ := h
  unfold poke
  split
  · exact ⟨Memory.write_wf h1 (region_ram_lt (by assumption)), h2, h3, h4⟩
  · exact ⟨h1, h2, h3, h4⟩
  · rename_i index hp
    refine ⟨h1, Memory.write_wf h2 ?_, h3, h4⟩
    have hb : ∀ k, slotBank s k < s.bankCount := by
      intro k; unfold slotBank; split
      · split
        · exact h4
        · omega
      · omega
    have hm : a.toNat % config.bankSize < config.bankSize := Nat.mod_lt _ (by decide)
    rw [region_prg_eq hp]
    exact Nat.lt_of_lt_of_le (Nat.add_lt_add_left hm _)
      (by rw [← Nat.succ_mul]; exact Nat.mul_le_mul_right _ (hb _))

/-- A bus write changes at most the one RAM byte its address names (R43, R45). -/
theorem memWrite_peek_other {s : State} {a b : Word} {v : Byte} (h : ¬ sameRamByte b a) :
    (memWrite a v s).peek b = s.peek b := by
  simp only [State.peek, region_congr (memWrite_bankSel a v s) (memWrite_bankCount a v s)]
  cases hb : region s b with
  | device _ => rfl
  | prg _ => simp
  | ram c =>
    obtain ⟨hb1, hb2⟩ := region_ram_iff.mp hb
    simp only [memWrite]
    cases ha : region s a with
    | device _ => rfl
    | prg _ => rfl
    | ram d =>
      obtain ⟨ha1, ha2⟩ := region_ram_iff.mp ha
      simp only
      rw [Memory.read_write_other]
      exact fun e => h ⟨hb1, ha1, by omega⟩

/-- What the bus shows depends on the two memories and the banks only. -/
theorem peek_congr {s t : State} (hr : t.ram = s.ram) (hp : t.prg = s.prg) (hb : t.bankSel = s.bankSel)
    (hc : t.bankCount = s.bankCount) (a : Word) : t.peek a = s.peek a := by
  simp only [State.peek, region_congr hb hc, hr, hp]

/-- A bus write does not look at the flags or at `CYC`. -/
theorem memWrite_flags_cyc (a : Word) (v : Byte) (s : State) (f : Flags) (n : Nat) :
    memWrite a v { s with flags := f, cyc := n } = { memWrite a v s with flags := f, cyc := n } := by
  simp only [memWrite, show region { s with flags := f, cyc := n } a = region s a from rfl]
  cases region s a <;> rfl

/-- Reading an operand changes at most the record of device accesses. -/
theorem operandValue_state (o : Operand) (s : State) :
    (operandValue o s).2 = { s with devLog := (operandValue o s).2.devLog } := by
  apply State.ext <;> simp

end Sys2Proof.Machine
end

