-- ==== Sys2Proof/Laws/Step.lean ====
section
/-! SUPPORT. The laws of the fetch and the step: what they leave alone, that the fetch answers an instruction or the
illegal-opcode signal and nothing else, and every way a step can end, said once. -/

namespace Sys2Proof.Machine

@[simp] theorem fetchInstr_a (s : State) : (fetchInstr s).2.a = s.a := by simp only [fetchInstr]; split <;> simp
@[simp] theorem fetchInstr_x (s : State) : (fetchInstr s).2.x = s.x := by simp only [fetchInstr]; split <;> simp
@[simp] theorem fetchInstr_y (s : State) : (fetchInstr s).2.y = s.y := by simp only [fetchInstr]; split <;> simp
@[simp] theorem fetchInstr_sp (s : State) : (fetchInstr s).2.sp = s.sp := by simp only [fetchInstr]; split <;> simp
@[simp] theorem fetchInstr_flags (s : State) : (fetchInstr s).2.flags = s.flags := by simp only [fetchInstr]; split <;> simp
@[simp] theorem fetchInstr_nmiPending (s : State) : (fetchInstr s).2.nmiPending = s.nmiPending := by simp only [fetchInstr]; split <;> simp
@[simp] theorem fetchInstr_irqPending (s : State) : (fetchInstr s).2.irqPending = s.irqPending := by simp only [fetchInstr]; split <;> simp
@[simp] theorem fetchInstr_bankSel (s : State) : (fetchInstr s).2.bankSel = s.bankSel := by simp only [fetchInstr]; split <;> simp
@[simp] theorem fetchInstr_bankCount (s : State) : (fetchInstr s).2.bankCount = s.bankCount := by simp only [fetchInstr]; split <;> simp
@[simp] theorem fetchInstr_ram (s : State) : (fetchInstr s).2.ram = s.ram := by simp only [fetchInstr]; split <;> simp
@[simp] theorem fetchInstr_prg (s : State) : (fetchInstr s).2.prg = s.prg := by simp only [fetchInstr]; split <;> simp
@[simp] theorem fetchInstr_cyc (s : State) : (fetchInstr s).2.cyc = s.cyc := by simp only [fetchInstr]; split <;> simp
@[simp] theorem fetchInstr_ready (s : State) : (fetchInstr s).2.ready = s.ready := by simp only [fetchInstr]; split <;> simp

/-- A fetch fails only on an illegal opcode byte, and then has read that one byte (R221). -/
theorem fetchInstr_illegal {s : State} (h : decodeOpcode (memRead s.pc s).1 = none) :
    fetchInstr s = (.error (.illegalOpcode (memRead s.pc s).1), (fetch8 s).2) := by
  have hr : rowOfByte (memRead s.pc s).1 = none := by simpa [decodeOpcode] using h
  simp [fetchInstr, fetch8, hr]

/-- On a legal opcode byte the fetch answers an instruction (R84). -/
theorem fetchInstr_legal {s : State} (h : decodeOpcode (memRead s.pc s).1 ≠ none) : ∃ i t, fetchInstr s = (.ok i, t) := by
  cases hr : rowOfByte (memRead s.pc s).1 with
  | none => simp [decodeOpcode, hr] at h
  | some r =>
    have hb : (fetch8 s).1 = (memRead s.pc s).1 := rfl
    cases hm : r.mode <;>
      simp [fetchInstr, hb, hr, hm, Mode.operandBytes, decode, Except.map]

/-- The fetch of an instruction whose bytes the stream holds, from any region (R62, R65). -/
theorem fetchInstr_ok {s : State} {i : Instr} (h : (fetchBytes i.mode.length s).1 = encode i) :
    fetchInstr s = (.ok i, (fetchBytes i.mode.length s).2) := by
  obtain ⟨r, hr, -, hm, hmk⟩ := rowOfByte_opcode i
  have hlen := Operand.bytes_length i.operand
  cases i with
  | _ =>
    simp only [Instr.mode, Instr.operand, Operand.mode, Mode.length, Mode.operandBytes, Operand.bytes, Operand.word,
      fetchBytes, encode, List.cons.injEq, and_true] at h hm hmk ⊢
    simp only [fetchInstr, h, hr, Option.map_some, hm, Mode.operandBytes, decode, Except.map, word_hi_lo, hmk]

/-- Every way a step can complete (R220). -/
theorem step_cases {s t : State} (h : step s = .next t) :
    s.ready = true ∧ ((∃ u, serviceInterrupt s = some u ∧ t = u) ∨
      (s.quiet ∧ ∃ i u, fetchInstr s = (.ok i, u) ∧ exec i u = .next t)) := by
  unfold step at h
  split at h
  · rename_i hr
    refine ⟨hr, ?_⟩
    split at h
    · rename_i u hu
      exact .inl ⟨u, hu, (Host.Outcome.next.inj h).symm⟩
    · rename_i hq
      split at h
      · rename_i i u hf
        exact .inr ⟨serviceInterrupt_eq_none.mp hq, i, u, hf, h⟩
      · cases h
  · cases h

/-- A quiet, ready step is the fetched instruction's `exec`. -/
theorem step_of_fetch {s t : State} {i : Instr} (hr : s.ready = true) (hq : s.quiet) (hf : fetchInstr s = (.ok i, t)) :
    step s = exec i t := by
  simp [step, hr, serviceInterrupt_eq_none.mpr hq, hf]

/-- Reading a byte that the bus shows has no side effect. -/
theorem memRead_of_peek {s : State} {a : Word} {b : Byte} (h : s.peek a = some b) : memRead a s = (b, s) := by
  simp only [State.peek] at h
  simp only [memRead]
  split at h <;> simp_all

/-- Fetching bytes that the bus shows moves `PC` past them and does nothing else (R6). -/
theorem fetchBytes_of_peek {s : State} {n : Nat} {bs : List Byte} (h : s.peekBytes s.pc n = some bs) :
    fetchBytes n s = (bs, { s with pc := s.pc + BitVec.ofNat 16 n }) := by
  induction n generalizing s bs with
  | zero => simp [State.peekBytes] at h; subst h; simp [fetchBytes]
  | succ n ih =>
    simp only [State.peekBytes, bind, Option.bind_eq_some_iff] at h
    obtain ⟨b, hb, cs, hc, he⟩ := h
    simp only [pure, Option.some.injEq] at he
    have hf : fetch8 s = (b, { s with pc := s.pc + 1 }) := by simp [fetch8, memRead_of_peek hb]
    have hpk : ∀ a k, State.peekBytes { s with pc := s.pc + 1 } a k = State.peekBytes s a k := by
      intro a k
      induction k generalizing a with
      | zero => rfl
      | succ k ih => simp only [State.peekBytes, ih]; rfl
    have e := ih (s := { s with pc := s.pc + 1 }) (bs := cs) (by rw [hpk]; exact hc)
    simp only [fetchBytes, hf, e, he]
    congr 2
    show s.pc + 1 + BitVec.ofNat 16 n = s.pc + BitVec.ofNat 16 (n + 1)
    rw [Nat.add_comm n 1, BitVec.ofNat_add]
    exact BitVec.add_assoc ..

end Sys2Proof.Machine
end

