-- ==== Sys2Proof/Machine/Trace.lean ====
section
/-! DEFINITION. The optional trace output of a step (60_exceptions.md R243): "the fetched opcode, decoded operation/mode,
and resulting register/flag snapshot". A function of the state before the step and no part of the state: "it has no
effect on state, and no rule depends on it" (log 10). -/

namespace Sys2Proof.Machine

/-- The register and flag snapshot of R243. -/
structure Snapshot where
  a : Byte
  x : Byte
  y : Byte
  sp : Byte
  pc : Word
  flags : Flags
  deriving DecidableEq, Repr

/-- What a step reports. `decoded` is none for an illegal opcode. -/
structure StepTrace where
  opcode : Byte
  decoded : Option (Op × Mode)
  after : Snapshot
  deriving DecidableEq, Repr

def State.snapshot (s : State) : Snapshot :=
  { a := s.a, x := s.x, y := s.y, sp := s.sp, pc := s.pc, flags := s.flags }

/-- The report of the step from `s`; none where the step fetches no opcode (an interrupt entry, a core never reset). -/
def traceStep (s : State) : Option StepTrace :=
  match s.ready, serviceInterrupt s with
  | true, none =>
    let op := (memRead s.pc s).1
    match step s with
    | .next t => some { opcode := op, decoded := decodeOpcode op, after := t.snapshot }
    | .fault (.illegalOpcode _ _ left) => some { opcode := op, decoded := none, after := left.snapshot }
    | .refused _ => none
  | _, _ => none

end Sys2Proof.Machine
end

