-- ==== Sys2Proof/Tests/Slice0.lean ====
section
/-! SUPPORT. Tests: the ill-formed pairs the check refuses, one word per constructor from the opcode map of
30_encoding.md R86, single steps of the vectors of 95_test_vectors.md, and a named witness for the hypotheses of every
statement of Certificates/Slice0/Obligations.lean. Every expected result is the spec's. -/

namespace Sys2Proof.Tests

open Sys2Proof Sys2Proof.Machine

/-- The machine of 95_test_vectors.md section 2: two banks, the vectors NMI 0x9000, reset 0x8000, IRQ 0xA000, `I` = 0.
`code` stands at 0x8000; unlisted program data is 0x00 here (the vectors' 0xEA filler is never read in one step). -/
def start (code : List Byte) : State where
  a := 0x00
  x := 0x00
  y := 0x00
  sp := 0xFD
  pc := 0x8000
  flags := { c := false, z := false, i := false, d := false, b := false, v := false, n := false }
  nmiPending := false
  irqPending := false
  bankSel := 0
  bankCount := 2
  ram := []
  prg := Memory.ofBytes 0 code ++ [(0x7FFB, 0x90), (0x7FFD, 0x80), (0x7FFF, 0xA0)]
  cyc := 0
  devLog := []
  ready := true

/-- The flags that the status byte `p` holds (bits N V - B D I Z C). -/
def flags (p : Byte) : Flags where
  n := p.getLsbD 7
  v := p.getLsbD 6
  b := p.getLsbD 4
  d := p.getLsbD 3
  i := p.getLsbD 2
  z := p.getLsbD 1
  c := p.getLsbD 0

/-- One step completes and its next state passes the check. -/
def after (s : State) (check : State → Bool) : Bool :=
  match step s with
  | .next t => check t
  | _ => false

/-- The decoder reads exactly these instructions from these byte sequences, with nothing left over. -/
def reads (table : List (List Byte × Instr)) : Bool :=
  table.all fun r => match decode r.1 with
    | .ok (i, []) => i == r.2
    | _ => false

/-! ## Well-formedness: every kind of pair the instruction set lacks (R90) -/

/-- Pairs without an opcode byte are refused. -/
theorem test_wellformed_refuses : ([
    (.sta, .immediate),
    (.bit, .immediate),
    (.inc, .accumulator),
    (.jsr, .indirect),
    (.jmp, .absoluteIndexedX),
    (.stx, .zeroPageIndexedX),
    (.ldx, .absoluteIndexedX),
    (.cpx, .zeroPageIndexedX),
    (.asl, .absoluteIndexedY),
    (.beq, .absolute),
    (.nop, .immediate),
    (.lda, .accumulator)] : List (Op × Mode)).all (fun p => !assigned p.1 p.2) = true := by decide

/-- The same operations in a mode they have are accepted. -/
theorem test_wellformed_accepts : (Instr.staZp 0xFF).wellFormed = true ∧ (Instr.aslAcc).wellFormed = true ∧
    (Instr.jmpInd 0xFFFF).wellFormed = true ∧ (Instr.beq 0x80).wellFormed = true := by decide

/-- Of the 56 times 13 pairs exactly 151 are instructions (R86, R90). -/
theorem test_wellformed_count : (Mode.accumulator :: [.absolute, .absoluteIndexedX, .absoluteIndexedY, .immediate, .implied,
    .indirect, .indirectPreIndexedX, .indirectPostIndexedY, .relative, .zeroPage, .zeroPageIndexedX, .zeroPageIndexedY]
    |>.map fun m => (opcodeMap.filter fun r => r.mode == m && assigned r.op m).length).sum = 151 := by decide

/-! ## Decoding: refusals, then one word per constructor (R86) -/

theorem test_decode_illegal : decode [0x02, 0x00, 0x00] = .error (.illegalOpcode 0x02) ∧
    decode [0xFF] = .error (.illegalOpcode 0xFF) ∧ decode [0xEB, 0x01] = .error (.illegalOpcode 0xEB) ∧
    decode [0x80, 0x00] = .error (.illegalOpcode 0x80) ∧ decode [0x1A] = .error (.illegalOpcode 0x1A) := by decide

theorem test_decode_truncated : decode [0xA9] = .error (.truncated 0xA9) ∧ decode [0x4C, 0x34] = .error (.truncated 0x4C) ∧
    decode [] = .error .empty := by decide

/-- The operand bytes after an instruction are left alone. -/
theorem test_decode_rest : decode [0xEA, 0xA9, 0x10] = .ok (.nop, [0xA9, 0x10]) ∧
    decode [0x8D, 0x00, 0x90, 0x60] = .ok (.staAbs 0x9000, [0x60]) := by decide

/-- Bits of the opcode byte as the table numbers them: LDA Absolute is 10101101, then the low byte, then the high byte. -/
theorem test_table_word : decodeTableWord 24 (0b10101101 + 0x34 * 2 ^ 8 + 0x12 * 2 ^ 16) = some (.ldaAbs 0x1234) ∧
    decodeTableWord 16 (0b10101001 + 0x7F * 2 ^ 8) = some (.ldaImm 0x7F) ∧
    decodeTableWord 8 0b11101010 = some .nop ∧ decodeTableWord 8 0b00000010 = none := by decide

theorem test_decode_loads : reads [
    ([0xA9, 0x9C], .ldaImm 0x9C), ([0xA5, 0x9C], .ldaZp 0x9C), ([0xB5, 0x9C], .ldaZpx 0x9C),
    ([0xAD, 0x34, 0xE2], .ldaAbs 0xE234), ([0xBD, 0x34, 0xE2], .ldaAbx 0xE234), ([0xB9, 0x34, 0xE2], .ldaAby 0xE234),
    ([0xA1, 0x9C], .ldaIzx 0x9C), ([0xB1, 0x9C], .ldaIzy 0x9C), ([0xA2, 0x9C], .ldxImm 0x9C),
    ([0xA6, 0x9C], .ldxZp 0x9C), ([0xB6, 0x9C], .ldxZpy 0x9C), ([0xAE, 0x34, 0xE2], .ldxAbs 0xE234),
    ([0xBE, 0x34, 0xE2], .ldxAby 0xE234), ([0xA0, 0x9C], .ldyImm 0x9C), ([0xA4, 0x9C], .ldyZp 0x9C),
    ([0xB4, 0x9C], .ldyZpx 0x9C), ([0xAC, 0x34, 0xE2], .ldyAbs 0xE234),
    ([0xBC, 0x34, 0xE2], .ldyAbx 0xE234)] = true := by
  decide

theorem test_decode_stores : reads [
    ([0x85, 0x9C], .staZp 0x9C), ([0x95, 0x9C], .staZpx 0x9C), ([0x8D, 0x34, 0xE2], .staAbs 0xE234),
    ([0x9D, 0x34, 0xE2], .staAbx 0xE234), ([0x99, 0x34, 0xE2], .staAby 0xE234), ([0x81, 0x9C], .staIzx 0x9C),
    ([0x91, 0x9C], .staIzy 0x9C), ([0x86, 0x9C], .stxZp 0x9C), ([0x96, 0x9C], .stxZpy 0x9C),
    ([0x8E, 0x34, 0xE2], .stxAbs 0xE234), ([0x84, 0x9C], .styZp 0x9C), ([0x94, 0x9C], .styZpx 0x9C),
    ([0x8C, 0x34, 0xE2], .styAbs 0xE234)] = true := by
  decide

theorem test_decode_transfers : reads [
    ([0xAA], .tax), ([0xA8], .tay), ([0x8A], .txa), ([0x98], .tya), ([0xBA], .tsx), ([0x9A], .txs), ([0xE8], .inx),
    ([0xC8], .iny), ([0xCA], .dex), ([0x88], .dey)] = true := by
  decide

theorem test_decode_adc_sbc : reads [
    ([0x69, 0x9C], .adcImm 0x9C), ([0x65, 0x9C], .adcZp 0x9C), ([0x75, 0x9C], .adcZpx 0x9C),
    ([0x6D, 0x34, 0xE2], .adcAbs 0xE234), ([0x7D, 0x34, 0xE2], .adcAbx 0xE234), ([0x79, 0x34, 0xE2], .adcAby 0xE234),
    ([0x61, 0x9C], .adcIzx 0x9C), ([0x71, 0x9C], .adcIzy 0x9C), ([0xE9, 0x9C], .sbcImm 0x9C),
    ([0xE5, 0x9C], .sbcZp 0x9C), ([0xF5, 0x9C], .sbcZpx 0x9C), ([0xED, 0x34, 0xE2], .sbcAbs 0xE234),
    ([0xFD, 0x34, 0xE2], .sbcAbx 0xE234), ([0xF9, 0x34, 0xE2], .sbcAby 0xE234), ([0xE1, 0x9C], .sbcIzx 0x9C),
    ([0xF1, 0x9C], .sbcIzy 0x9C)] = true := by
  decide

theorem test_decode_logic : reads [
    ([0x29, 0x9C], .andImm 0x9C), ([0x25, 0x9C], .andZp 0x9C), ([0x35, 0x9C], .andZpx 0x9C),
    ([0x2D, 0x34, 0xE2], .andAbs 0xE234), ([0x3D, 0x34, 0xE2], .andAbx 0xE234), ([0x39, 0x34, 0xE2], .andAby 0xE234),
    ([0x21, 0x9C], .andIzx 0x9C), ([0x31, 0x9C], .andIzy 0x9C), ([0x09, 0x9C], .oraImm 0x9C),
    ([0x05, 0x9C], .oraZp 0x9C), ([0x15, 0x9C], .oraZpx 0x9C), ([0x0D, 0x34, 0xE2], .oraAbs 0xE234),
    ([0x1D, 0x34, 0xE2], .oraAbx 0xE234), ([0x19, 0x34, 0xE2], .oraAby 0xE234), ([0x01, 0x9C], .oraIzx 0x9C),
    ([0x11, 0x9C], .oraIzy 0x9C), ([0x49, 0x9C], .eorImm 0x9C), ([0x45, 0x9C], .eorZp 0x9C),
    ([0x55, 0x9C], .eorZpx 0x9C), ([0x4D, 0x34, 0xE2], .eorAbs 0xE234), ([0x5D, 0x34, 0xE2], .eorAbx 0xE234),
    ([0x59, 0x34, 0xE2], .eorAby 0xE234), ([0x41, 0x9C], .eorIzx 0x9C), ([0x51, 0x9C], .eorIzy 0x9C),
    ([0x24, 0x9C], .bitZp 0x9C), ([0x2C, 0x34, 0xE2], .bitAbs 0xE234)] = true := by
  decide

theorem test_decode_compares : reads [
    ([0xC9, 0x9C], .cmpImm 0x9C), ([0xC5, 0x9C], .cmpZp 0x9C), ([0xD5, 0x9C], .cmpZpx 0x9C),
    ([0xCD, 0x34, 0xE2], .cmpAbs 0xE234), ([0xDD, 0x34, 0xE2], .cmpAbx 0xE234), ([0xD9, 0x34, 0xE2], .cmpAby 0xE234),
    ([0xC1, 0x9C], .cmpIzx 0x9C), ([0xD1, 0x9C], .cmpIzy 0x9C), ([0xE0, 0x9C], .cpxImm 0x9C),
    ([0xE4, 0x9C], .cpxZp 0x9C), ([0xEC, 0x34, 0xE2], .cpxAbs 0xE234), ([0xC0, 0x9C], .cpyImm 0x9C),
    ([0xC4, 0x9C], .cpyZp 0x9C), ([0xCC, 0x34, 0xE2], .cpyAbs 0xE234)] = true := by
  decide

theorem test_decode_inc_dec : reads [
    ([0xE6, 0x9C], .incZp 0x9C), ([0xF6, 0x9C], .incZpx 0x9C), ([0xEE, 0x34, 0xE2], .incAbs 0xE234),
    ([0xFE, 0x34, 0xE2], .incAbx 0xE234), ([0xC6, 0x9C], .decZp 0x9C), ([0xD6, 0x9C], .decZpx 0x9C),
    ([0xCE, 0x34, 0xE2], .decAbs 0xE234), ([0xDE, 0x34, 0xE2], .decAbx 0xE234)] = true := by
  decide

theorem test_decode_left_shifts : reads [
    ([0x0A], .aslAcc), ([0x06, 0x9C], .aslZp 0x9C), ([0x16, 0x9C], .aslZpx 0x9C),
    ([0x0E, 0x34, 0xE2], .aslAbs 0xE234), ([0x1E, 0x34, 0xE2], .aslAbx 0xE234), ([0x2A], .rolAcc),
    ([0x26, 0x9C], .rolZp 0x9C), ([0x36, 0x9C], .rolZpx 0x9C), ([0x2E, 0x34, 0xE2], .rolAbs 0xE234),
    ([0x3E, 0x34, 0xE2], .rolAbx 0xE234)] = true := by
  decide

theorem test_decode_right_shifts : reads [
    ([0x4A], .lsrAcc), ([0x46, 0x9C], .lsrZp 0x9C), ([0x56, 0x9C], .lsrZpx 0x9C),
    ([0x4E, 0x34, 0xE2], .lsrAbs 0xE234), ([0x5E, 0x34, 0xE2], .lsrAbx 0xE234), ([0x6A], .rorAcc),
    ([0x66, 0x9C], .rorZp 0x9C), ([0x76, 0x9C], .rorZpx 0x9C), ([0x6E, 0x34, 0xE2], .rorAbs 0xE234),
    ([0x7E, 0x34, 0xE2], .rorAbx 0xE234)] = true := by
  decide

theorem test_decode_branches : reads [
    ([0x90, 0x9C], .bcc 0x9C), ([0xB0, 0x9C], .bcs 0x9C), ([0xF0, 0x9C], .beq 0x9C), ([0x30, 0x9C], .bmi 0x9C),
    ([0xD0, 0x9C], .bne 0x9C), ([0x10, 0x9C], .bpl 0x9C), ([0x50, 0x9C], .bvc 0x9C),
    ([0x70, 0x9C], .bvs 0x9C)] = true := by
  decide

theorem test_decode_jumps : reads [
    ([0x4C, 0x34, 0xE2], .jmpAbs 0xE234), ([0x6C, 0x34, 0xE2], .jmpInd 0xE234), ([0x20, 0x34, 0xE2], .jsr 0xE234),
    ([0x60], .rts), ([0x40], .rti), ([0x00], .brk)] = true := by
  decide

theorem test_decode_stack_and_flags : reads [
    ([0x48], .pha), ([0x68], .pla), ([0x08], .php), ([0x28], .plp), ([0x18], .clc), ([0x38], .sec), ([0x58], .cli),
    ([0x78], .sei), ([0xD8], .cld), ([0xF8], .sed), ([0xB8], .clv), ([0xEA], .nop)] = true := by
  decide

/-! ## One step: the vectors of 95_test_vectors.md (`V`) -/

/-- V3: ZeroPageIndexedX wraps: ea = 0x0001, not 0x0101. -/
theorem test_lda_v3 : after { start [0xB5, 0xFF] with x := 0x02, ram := [(0x0001, 0x44), (0x0101, 0x55)] }
    (fun t => t.a == 0x44 && t.flags == flags 0x00 && t.pc == 0x8002 && t.cyc == 4) = true := by decide

/-- V4: ZeroPageIndexedY wraps: ea = 0x0010. -/
theorem test_ldx_v4 : after { start [0xB6, 0x80] with y := 0x90, ram := [(0x0010, 0x66)] }
    (fun t => t.x == 0x66 && t.flags == flags 0x00 && t.pc == 0x8002 && t.cyc == 4) = true := by decide

/-- V7: AbsoluteIndexedX, page cross: 5 cycles. -/
theorem test_lda_v7 : after { start [0xBD, 0xF0, 0x02] with x := 0x10, ram := [(0x0300, 0x13)] }
    (fun t => t.a == 0x13 && t.flags == flags 0x00 && t.pc == 0x8003 && t.cyc == 5) = true := by decide

/-- V8: AbsoluteIndexedY wraps past 0xFFFF to 0x0010; crossed. -/
theorem test_lda_v8 : after { start [0xB9, 0xFF, 0xFF] with y := 0x11, ram := [(0x0010, 0x99)] }
    (fun t => t.a == 0x99 && t.flags == flags 0x80 && t.pc == 0x8003 && t.cyc == 5) = true := by decide

/-- V11: IndirectPreIndexedX pointer wraps: low from 0x00FF, high from 0x0000 (ea 0x0240, not 0x0740). -/
theorem test_lda_v11 : after { start [0xA1, 0xFE] with x := 0x01, ram := [(0x0000, 0x02), (0x00FF, 0x40), (0x0100,
      0x07), (0x0240, 0xCD), (0x0740, 0xEE)] }
    (fun t => t.a == 0xCD && t.flags == flags 0x80 && t.pc == 0x8002 && t.cyc == 6) = true := by decide

/-- V13: IndirectPostIndexedY, cross: 6 cycles, ea = 0x0301. -/
theorem test_lda_v13 : after { start [0xB1, 0x10] with y := 0x05, ram := [(0x0010, 0xFC), (0x0011, 0x02), (0x0301,
      0x43)] }
    (fun t => t.a == 0x43 && t.flags == flags 0x00 && t.pc == 0x8002 && t.cyc == 6) = true := by decide

/-- V14: IndirectPostIndexedY pointer high byte from 0x0000 (D20): ea = 0x0301. -/
theorem test_lda_v14 : after { start [0xB1, 0xFF] with y := 0x01, ram := [(0x0000, 0x03), (0x0100, 0x06), (0x0301,
      0x44), (0x0601, 0x45)] }
    (fun t => t.a == 0x44 && t.flags == flags 0x00 && t.pc == 0x8002 && t.cyc == 5) = true := by decide

/-- V15: STA IndirectPostIndexedY: 6 cycles regardless of cross; ea = 0x0300. -/
theorem test_sta_v15 : after { start [0x91, 0x10] with a := 0x77, y := 0xFF, ram := [(0x0010, 0x01), (0x0011, 0x02)] }
    (fun t => t.flags == flags 0x00 && t.peek 0x0300 == some 0x77 && t.pc == 0x8002 && t.cyc == 6) = true := by decide

/-- V16: Indirect quirk: high byte from 0x0200, target 0x1234 (not 0x5634). -/
theorem test_jmp_v16 : after { start [0x6C, 0xFF, 0x02] with ram := [(0x0200, 0x12), (0x02FF, 0x34), (0x0300, 0x56)] }
    (fun t => t.flags == flags 0x00 && t.pc == 0x1234 && t.cyc == 5) = true := by decide

/-- V20: FES §8: load 0x00 gives Z=1, N=0. -/
theorem test_lda_v20 : after { start [0xA9, 0x00] with a := 0x55 }
    (fun t => t.a == 0x00 && t.flags == flags 0x02 && t.pc == 0x8002 && t.cyc == 2) = true := by decide

/-- V21: FES §8: load 0x80 gives Z=0, N=1. -/
theorem test_lda_v21 : after (start [0xA9, 0x80])
    (fun t => t.a == 0x80 && t.flags == flags 0x80 && t.pc == 0x8002 && t.cyc == 2) = true := by decide

/-- V22: LDX writes Z and N (N cleared). -/
theorem test_ldx_v22 : after { start [0xA2, 0x00] with x := 0x01, flags := flags 0x80 }
    (fun t => t.x == 0x00 && t.flags == flags 0x02 && t.pc == 0x8002 && t.cyc == 2) = true := by decide

/-- V23: LDY. -/
theorem test_ldy_v23 : after (start [0xA0, 0xFF])
    (fun t => t.y == 0xFF && t.flags == flags 0x80 && t.pc == 0x8002 && t.cyc == 2) = true := by decide

/-- V24: LDX AbsoluteIndexedY, crossed: 5 cycles. -/
theorem test_ldx_v24 : after { start [0xBE, 0x80, 0x02] with y := 0x80, ram := [(0x0300, 0x01)] }
    (fun t => t.x == 0x01 && t.flags == flags 0x00 && t.pc == 0x8003 && t.cyc == 5) = true := by decide

/-- V26: STA 0x0800 lands in RAM[0] (mirror). -/
theorem test_sta_v26 : after { start [0x8D, 0x00, 0x08] with a := 0x3C }
    (fun t => t.flags == flags 0x00 && t.peek 0x0000 == some 0x3C && t.pc == 0x8003 && t.cyc == 4) = true := by decide

/-- V27: STA into program data: discarded, no fault, normal cycle count. -/
theorem test_sta_v27 : after { start [0x8D, 0x00, 0x90] with a := 0x3C }
    (fun t => t.flags == flags 0x00 && t.pc == 0x8003 && t.cyc == 4) = true := by decide

/-- V28: STX ZeroPageIndexedY wraps to 0x0010. -/
theorem test_stx_v28 : after { start [0x96, 0xF0] with x := 0x9A, y := 0x20 }
    (fun t => t.flags == flags 0x00 && t.peek 0x0010 == some 0x9A && t.pc == 0x8002 && t.cyc == 4) = true := by decide

/-- V29: STY Absolute. -/
theorem test_sty_v29 : after { start [0x8C, 0x34, 0x02] with y := 0x21 }
    (fun t => t.flags == flags 0x00 && t.peek 0x0234 == some 0x21 && t.pc == 0x8003 && t.cyc == 4) = true := by decide

/-- V30: TAX. -/
theorem test_tax_v30 : after { start [0xAA] with a := 0x80 }
    (fun t => t.x == 0x80 && t.flags == flags 0x80 && t.pc == 0x8001 && t.cyc == 2) = true := by decide

/-- V31: TAY of zero. -/
theorem test_tay_v31 : after { start [0xA8] with a := 0x00, y := 0x05 }
    (fun t => t.y == 0x00 && t.flags == flags 0x02 && t.pc == 0x8001 && t.cyc == 2) = true := by decide

/-- V32: TXA. -/
theorem test_txa_v32 : after { start [0x8A] with a := 0x80, x := 0x7F, flags := flags 0x80 }
    (fun t => t.a == 0x7F && t.flags == flags 0x00 && t.pc == 0x8001 && t.cyc == 2) = true := by decide

/-- V33: TYA. -/
theorem test_tya_v33 : after { start [0x98] with y := 0x90 }
    (fun t => t.a == 0x90 && t.flags == flags 0x80 && t.pc == 0x8001 && t.cyc == 2) = true := by decide

/-- V34: TSX writes Z, N. -/
theorem test_tsx_v34 : after (start [0xBA])
    (fun t => t.x == 0xFD && t.flags == flags 0x80 && t.pc == 0x8001 && t.cyc == 2) = true := by decide

/-- V35: TXS writes no flag. -/
theorem test_txs_v35 : after { start [0x9A] with x := 0x00, flags := flags 0x80 }
    (fun t => t.sp == 0x00 && t.flags == flags 0x80 && t.pc == 0x8001 && t.cyc == 2) = true := by decide

/-- V42: ADC carry in: 0x7F+0+1 = 0x80, V=1. -/
theorem test_adc_v42 : after { start [0x69, 0x00] with a := 0x7F, flags := flags 0x01 }
    (fun t => t.a == 0x80 && t.flags == flags 0xC0 && t.pc == 0x8002 && t.cyc == 2) = true := by decide

/-- V43: ADC 0x80+0x80: C=1, V=1, Z=1. -/
theorem test_adc_v43 : after { start [0x69, 0x80] with a := 0x80 }
    (fun t => t.a == 0x00 && t.flags == flags 0x43 && t.pc == 0x8002 && t.cyc == 2) = true := by decide

/-- V45: ADC with D=1 is still binary (0x32, not 0x38). -/
theorem test_adc_v45 : after { start [0x69, 0x19] with a := 0x19, flags := flags 0x08 }
    (fun t => t.a == 0x32 && t.flags == flags 0x08 && t.pc == 0x8002 && t.cyc == 2) = true := by decide

/-- V46: SBC 0-1 with no borrow in: 0xFF, C=0 (borrow). -/
theorem test_sbc_v46 : after { start [0xE9, 0x01] with a := 0x00, flags := flags 0x01 }
    (fun t => t.a == 0xFF && t.flags == flags 0x80 && t.pc == 0x8002 && t.cyc == 2) = true := by decide

/-- V50: SBC 0x7F-(-1): 0x80, V=1, C=0. -/
theorem test_sbc_v50 : after { start [0xE9, 0xFF] with a := 0x7F, flags := flags 0x01 }
    (fun t => t.a == 0x80 && t.flags == flags 0xC0 && t.pc == 0x8002 && t.cyc == 2) = true := by decide

/-- V51: SBC with D=1 is still binary (0x0F). -/
theorem test_sbc_v51 : after { start [0xE9, 0x01] with a := 0x10, flags := flags 0x09 }
    (fun t => t.a == 0x0F && t.flags == flags 0x09 && t.pc == 0x8002 && t.cyc == 2) = true := by decide

/-- V52: AND. -/
theorem test_and_v52 : after { start [0x29, 0x0F] with a := 0xF0 }
    (fun t => t.a == 0x00 && t.flags == flags 0x02 && t.pc == 0x8002 && t.cyc == 2) = true := by decide

/-- V53: ORA. -/
theorem test_ora_v53 : after { start [0x09, 0x80] with a := 0x01 }
    (fun t => t.a == 0x81 && t.flags == flags 0x80 && t.pc == 0x8002 && t.cyc == 2) = true := by decide

/-- V54: EOR. -/
theorem test_eor_v54 : after { start [0x49, 0xFF] with a := 0xFF }
    (fun t => t.a == 0x00 && t.flags == flags 0x02 && t.pc == 0x8002 && t.cyc == 2) = true := by decide

/-- V55: BIT: Z from A&m = 0; N, V from m bits 7, 6; A unchanged. -/
theorem test_bit_v55 : after { start [0x24, 0x10] with a := 0x01, ram := [(0x0010, 0xC0)] }
    (fun t => t.flags == flags 0xC2 && t.pc == 0x8002 && t.cyc == 3) = true := by decide

/-- V56: BIT clears N and V from m. -/
theorem test_bit_v56 : after { start [0x2C, 0x00, 0x03] with a := 0xFF, flags := flags 0xC0, ram := [(0x0300, 0x01)] }
    (fun t => t.flags == flags 0x00 && t.pc == 0x8003 && t.cyc == 4) = true := by decide

/-- V58: CMP less: C=0, N from 0xFF. -/
theorem test_cmp_v58 : after { start [0xC9, 0x41] with a := 0x40, flags := flags 0x01 }
    (fun t => t.flags == flags 0x80 && t.pc == 0x8002 && t.cyc == 2) = true := by decide

/-- V59: CMP: N=0 (0x7F), V untouched. -/
theorem test_cmp_v59 : after { start [0xC9, 0x01] with a := 0x80, flags := flags 0x40 }
    (fun t => t.flags == flags 0x41 && t.pc == 0x8002 && t.cyc == 2) = true := by decide

/-- V60: CPX greater. -/
theorem test_cpx_v60 : after { start [0xE0, 0x10] with x := 0x20 }
    (fun t => t.flags == flags 0x01 && t.pc == 0x8002 && t.cyc == 2) = true := by decide

/-- V61: CPY ZeroPage, less. -/
theorem test_cpy_v61 : after { start [0xC4, 0x10] with y := 0x00, ram := [(0x0010, 0x01)] }
    (fun t => t.flags == flags 0x80 && t.pc == 0x8002 && t.cyc == 3) = true := by decide

/-- V62: INC wraps to 0, Z=1; C untouched. -/
theorem test_inc_v62 : after { start [0xE6, 0x10] with ram := [(0x0010, 0xFF)] }
    (fun t => t.flags == flags 0x02 && t.peek 0x0010 == some 0x00 && t.pc == 0x8002 && t.cyc == 5) = true := by decide

/-- V63: DEC wraps to 0xFF. -/
theorem test_dec_v63 : after (start [0xC6, 0x10])
    (fun t => t.flags == flags 0x80 && t.peek 0x0010 == some 0xFF && t.pc == 0x8002 && t.cyc == 5) = true := by decide

/-- V64: INC AbsoluteIndexedX: 7 cycles even when crossed. -/
theorem test_inc_v64 : after { start [0xFE, 0xFF, 0x02] with x := 0x01, ram := [(0x0300, 0x7F)] }
    (fun t => t.flags == flags 0x80 && t.peek 0x0300 == some 0x80 && t.pc == 0x8003 && t.cyc == 7) = true := by decide

/-- V65: INX wraps. -/
theorem test_inx_v65 : after { start [0xE8] with x := 0xFF }
    (fun t => t.x == 0x00 && t.flags == flags 0x02 && t.pc == 0x8001 && t.cyc == 2) = true := by decide

/-- V66: INY. -/
theorem test_iny_v66 : after { start [0xC8] with y := 0x7F }
    (fun t => t.y == 0x80 && t.flags == flags 0x80 && t.pc == 0x8001 && t.cyc == 2) = true := by decide

/-- V67: DEX wraps. -/
theorem test_dex_v67 : after { start [0xCA] with x := 0x00 }
    (fun t => t.x == 0xFF && t.flags == flags 0x80 && t.pc == 0x8001 && t.cyc == 2) = true := by decide

/-- V68: DEY to zero. -/
theorem test_dey_v68 : after { start [0x88] with y := 0x01 }
    (fun t => t.y == 0x00 && t.flags == flags 0x02 && t.pc == 0x8001 && t.cyc == 2) = true := by decide

/-- V70: ASL A: bit 7 to C, bit 0 = 0. -/
theorem test_asl_v70 : after { start [0x0A] with a := 0x81 }
    (fun t => t.a == 0x02 && t.flags == flags 0x01 && t.pc == 0x8001 && t.cyc == 2) = true := by decide

/-- V72: LSR A: bit 0 to C, N always 0. -/
theorem test_lsr_v72 : after { start [0x4A] with a := 0x01, flags := flags 0x80 }
    (fun t => t.a == 0x00 && t.flags == flags 0x03 && t.pc == 0x8001 && t.cyc == 2) = true := by decide

/-- V73: ROL A: old C into bit 0. -/
theorem test_rol_v73 : after { start [0x2A] with a := 0x80, flags := flags 0x01 }
    (fun t => t.a == 0x01 && t.flags == flags 0x01 && t.pc == 0x8001 && t.cyc == 2) = true := by decide

/-- V75: ROR A: old C into bit 7. -/
theorem test_ror_v75 : after { start [0x6A] with a := 0x01, flags := flags 0x01 }
    (fun t => t.a == 0x80 && t.flags == flags 0x81 && t.pc == 0x8001 && t.cyc == 2) = true := by decide

/-- V77: ASL ZeroPage: memory changes, A does not; N from result. -/
theorem test_asl_v77 : after { start [0x06, 0x10] with a := 0x55, ram := [(0x0010, 0x40)] }
    (fun t => t.flags == flags 0x80 && t.peek 0x0010 == some 0x80 && t.pc == 0x8002 && t.cyc == 5) = true := by decide

/-- V78: LSR AbsoluteIndexedX: 7 cycles. -/
theorem test_lsr_v78 : after { start [0x5E, 0xFF, 0x02] with x := 0x01, ram := [(0x0300, 0x03)] }
    (fun t => t.flags == flags 0x01 && t.peek 0x0300 == some 0x01 && t.pc == 0x8003 && t.cyc == 7) = true := by decide

/-- V79: ROL ZeroPageIndexedX (wraps to 0x0010). -/
theorem test_rol_v79 : after { start [0x36, 0xFF] with x := 0x11, flags := flags 0x01, ram := [(0x0010, 0x7F)] }
    (fun t => t.flags == flags 0x80 && t.peek 0x0010 == some 0xFF && t.pc == 0x8002 && t.cyc == 6) = true := by decide

/-- V80: ROR Absolute. -/
theorem test_ror_v80 : after { start [0x6E, 0x00, 0x03] with flags := flags 0x01, ram := [(0x0300, 0xFE)] }
    (fun t => t.flags == flags 0x80 && t.peek 0x0300 == some 0xFF && t.pc == 0x8003 && t.cyc == 6) = true := by decide

/-- V90: BNE not taken: PC = 0x8002, 2 cycles (FES §8). -/
theorem test_bne_v90 : after { start [0xD0, 0x05] with flags := flags 0x02 }
    (fun t => t.flags == flags 0x02 && t.pc == 0x8002 && t.cyc == 2) = true := by decide

/-- V91: BNE taken, same page: 3 cycles. -/
theorem test_bne_v91 : after (start [0xD0, 0x05])
    (fun t => t.flags == flags 0x00 && t.pc == 0x8007 && t.cyc == 3) = true := by decide

/-- V92: BEQ offset -2: branches to itself. -/
theorem test_beq_v92 : after { start [0xF0, 0xFE] with flags := flags 0x02 }
    (fun t => t.flags == flags 0x02 && t.pc == 0x8000 && t.cyc == 3) = true := by decide

/-- V93: BCC offset -128 from 0x8002: 0x7F82, page crossed: 4 cycles. -/
theorem test_bcc_v93 : after (start [0x90, 0x80])
    (fun t => t.flags == flags 0x00 && t.pc == 0x7F82 && t.cyc == 4) = true := by decide

/-- V94: BCS at 0x80F0, +127 from 0x80F2: 0x8171, crossed. -/
theorem test_bcs_v94 : after { start [0xB0, 0x7F] with flags := flags 0x01, pc := 0x80F0, prg := [(0x00F0, 0xB0),
      (0x00F1, 0x7F)] }
    (fun t => t.flags == flags 0x01 && t.pc == 0x8171 && t.cyc == 4) = true := by decide

/-- V95: BMI not taken. -/
theorem test_bmi_v95 : after (start [0x30, 0x10])
    (fun t => t.flags == flags 0x00 && t.pc == 0x8002 && t.cyc == 2) = true := by decide

/-- V96: BPL taken. -/
theorem test_bpl_v96 : after (start [0x10, 0x10])
    (fun t => t.flags == flags 0x00 && t.pc == 0x8012 && t.cyc == 3) = true := by decide

/-- V97: BVC not taken. -/
theorem test_bvc_v97 : after { start [0x50, 0x02] with flags := flags 0x40 }
    (fun t => t.flags == flags 0x40 && t.pc == 0x8002 && t.cyc == 2) = true := by decide

/-- V98: BVS taken. -/
theorem test_bvs_v98 : after { start [0x70, 0x02] with flags := flags 0x40 }
    (fun t => t.flags == flags 0x40 && t.pc == 0x8004 && t.cyc == 3) = true := by decide

/-- V99: BNE at 0x80FE, offset 0: target 0x8100 = next instruction; taken, not crossed (same page as next instruction). -/
theorem test_bne_v99 : after { start [0xD0, 0x00] with pc := 0x80FE, prg := [(0x00FE, 0xD0)] }
    (fun t => t.flags == flags 0x00 && t.pc == 0x8100 && t.cyc == 3) = true := by decide

/-- V100: BEQ at 0x8100, offset -3: target 0x80FF, crossed. -/
theorem test_beq_v100 : after { start [0xF0, 0xFD] with flags := flags 0x02, pc := 0x8100, prg := [(0x0100, 0xF0),
      (0x0101, 0xFD)] }
    (fun t => t.flags == flags 0x02 && t.pc == 0x80FF && t.cyc == 4) = true := by decide

/-- V101: JMP Absolute. -/
theorem test_jmp_v101 : after (start [0x4C, 0x34, 0x12])
    (fun t => t.flags == flags 0x00 && t.pc == 0x1234 && t.cyc == 3) = true := by decide

/-- V102: JSR pushes 0x8002 (high first). -/
theorem test_jsr_v102 : after (start [0x20, 0x10, 0x80])
    (fun t => t.sp == 0xFB && t.flags == flags 0x00 && t.peek 0x01FC == some 0x02 && t.peek 0x01FD == some 0x80 &&
      t.pc == 0x8010 && t.cyc == 6) = true := by decide

/-- V103: RTS: 0x8002 + 1. -/
theorem test_rts_v103 : after { start [0x60] with sp := 0xFB, ram := [(0x01FC, 0x02), (0x01FD, 0x80)] }
    (fun t => t.sp == 0xFD && t.flags == flags 0x00 && t.pc == 0x8003 && t.cyc == 6) = true := by decide

/-- V104: JSR with SP=0: high to 0x0100, low to 0x01FF, SP=0xFE. -/
theorem test_jsr_v104 : after { start [0x20, 0x10, 0x80] with sp := 0x00 }
    (fun t => t.sp == 0xFE && t.flags == flags 0x00 && t.peek 0x0100 == some 0x80 && t.peek 0x01FF == some 0x02 &&
      t.pc == 0x8010 && t.cyc == 6) = true := by decide

/-- V105: RTS with SP=0xFF pulls 0x0100 then 0x0101; 0xFFFF+1 wraps to 0x0000. -/
theorem test_rts_v105 : after { start [0x60] with sp := 0xFF, ram := [(0x0100, 0xFF), (0x0101, 0xFF)] }
    (fun t => t.sp == 0x01 && t.flags == flags 0x00 && t.pc == 0x0000 && t.cyc == 6) = true := by decide

/-- V111: PHA at SP=0: writes 0x0100, SP wraps to 0xFF. -/
theorem test_pha_v111 : after { start [0x48] with a := 0x11, sp := 0x00 }
    (fun t => t.sp == 0xFF && t.flags == flags 0x00 && t.peek 0x0100 == some 0x11 && t.pc == 0x8001 && t.cyc == 3) =
      true := by decide

/-- V112: PLA at SP=0xFF: SP wraps to 0, reads 0x0100, Z=1. -/
theorem test_pla_v112 : after { start [0x68] with sp := 0xFF }
    (fun t => t.sp == 0x00 && t.flags == flags 0x02 && t.pc == 0x8001 && t.cyc == 4) = true := by decide

/-- V113: PHP after reset flags: 0x24 (stored B=0, D8). -/
theorem test_php_v113 : after { start [0x08] with flags := flags 0x04 }
    (fun t => t.sp == 0xFC && t.flags == flags 0x04 && t.peek 0x01FD == some 0x24 && t.pc == 0x8001 && t.cyc == 3) =
      true := by decide

/-- V114: PHP all set: 0xFF. -/
theorem test_php_v114 : after { start [0x08] with flags := flags 0xDF }
    (fun t => t.sp == 0xFC && t.flags == flags 0xDF && t.peek 0x01FD == some 0xFF && t.pc == 0x8001 && t.cyc == 3) =
      true := by decide

/-- V115: PLP: N V . B D I Z C = 1 1 . 0 0 0 1 1. -/
theorem test_plp_v115 : after { start [0x28] with sp := 0xFC, ram := [(0x01FD, 0xC3)] }
    (fun t => t.sp == 0xFD && t.flags == flags 0xC3 && t.pc == 0x8001 && t.cyc == 4) = true := by decide

/-- V116: PLP loads B=1 (D8); bit 5 ignored. -/
theorem test_plp_v116 : after { start [0x28] with sp := 0xFC, flags := flags 0x04, ram := [(0x01FD, 0x10)] }
    (fun t => t.sp == 0xFD && t.flags == flags 0x10 && t.pc == 0x8001 && t.cyc == 4) = true := by decide

/-- V117: CLC. -/
theorem test_clc_v117 : after { start [0x18] with flags := flags 0x01 }
    (fun t => t.flags == flags 0x00 && t.pc == 0x8001 && t.cyc == 2) = true := by decide

/-- V118: SEC. -/
theorem test_sec_v118 : after (start [0x38])
    (fun t => t.flags == flags 0x01 && t.pc == 0x8001 && t.cyc == 2) = true := by decide

/-- V119: CLI. -/
theorem test_cli_v119 : after { start [0x58] with flags := flags 0x04 }
    (fun t => t.flags == flags 0x00 && t.pc == 0x8001 && t.cyc == 2) = true := by decide

/-- V120: SEI. -/
theorem test_sei_v120 : after (start [0x78])
    (fun t => t.flags == flags 0x04 && t.pc == 0x8001 && t.cyc == 2) = true := by decide

/-- V121: CLD. -/
theorem test_cld_v121 : after { start [0xD8] with flags := flags 0x08 }
    (fun t => t.flags == flags 0x00 && t.pc == 0x8001 && t.cyc == 2) = true := by decide

/-- V122: SED. -/
theorem test_sed_v122 : after (start [0xF8])
    (fun t => t.flags == flags 0x08 && t.pc == 0x8001 && t.cyc == 2) = true := by decide

/-- V123: CLV. -/
theorem test_clv_v123 : after { start [0xB8] with flags := flags 0x40 }
    (fun t => t.flags == flags 0x00 && t.pc == 0x8001 && t.cyc == 2) = true := by decide

/-- V124: NOP. -/
theorem test_nop_v124 : after (start [0xEA])
    (fun t => t.flags == flags 0x00 && t.pc == 0x8001 && t.cyc == 2) = true := by decide

/-- V125: BRK: pushes 0x8002, status 0x33; vector 0xFFFE holds 0xA000. -/
theorem test_brk_v125 : after { start [0x00] with flags := flags 0x03 }
    (fun t => t.sp == 0xFA && t.flags == flags 0x17 && t.peek 0x01FB == some 0x33 && t.peek 0x01FC == some 0x02 &&
      t.peek 0x01FD == some 0x80 && t.pc == 0xA000 && t.cyc == 7) = true := by decide

/-- V126: RTI: status then PC, nothing added. -/
theorem test_rti_v126 : after { start [0x40] with sp := 0xFA, ram := [(0x01FB, 0x33), (0x01FC, 0x02), (0x01FD, 0x80)]
      }
    (fun t => t.sp == 0xFD && t.flags == flags 0x13 && t.pc == 0x8002 && t.cyc == 6) = true := by decide
/-! ## Illegal opcodes, interrupts, reset, the bus (95_test_vectors.md V140, W, B) -/

/-- V140: `PC` = 0x8001 and nothing else changed. -/
theorem test_illegal_v140 : step { start [0x02] with a := 0x12 } =
    .fault (.illegalOpcode 0x02 0x8000 { start [0x02] with a := 0x12, pc := 0x8001 }) := by rfl

/-- V144: 0xEB, an SBC alias elsewhere, is illegal here; its operand byte is not fetched. -/
theorem test_illegal_v144 : step (start [0xEB, 0x01]) =
    .fault (.illegalOpcode 0xEB 0x8000 { start [0xEB, 0x01] with pc := 0x8001 }) := by rfl

/-- W2: an NMI is taken although `I` is 1. -/
theorem test_nmi_w2 : after { start [0xEA] with flags := flags 0x04, nmiPending := true }
    (fun t => t.peek 0x01FD == some 0x80 && t.peek 0x01FC == some 0x00 && t.peek 0x01FB == some 0x24 && t.sp == 0xFA &&
      t.flags == flags 0x04 && t.pc == 0x9000 && !t.nmiPending && t.cyc == 7) = true := by decide

/-- W3: an IRQ is held while `I` is 1; the NOP runs. -/
theorem test_irq_held_w3 : after { start [0xEA] with flags := flags 0x04, irqPending := true }
    (fun t => t.pc == 0x8001 && t.irqPending && t.sp == 0xFD && t.cyc == 2) = true := by decide

/-- W4: an IRQ is taken while `I` is 0; the pushed byte holds the old `I`. -/
theorem test_irq_w4 : after { start [0xEA] with flags := flags 0x81, irqPending := true }
    (fun t => t.peek 0x01FD == some 0x80 && t.peek 0x01FC == some 0x00 && t.peek 0x01FB == some 0xA1 && t.sp == 0xFA &&
      t.flags == flags 0x85 && t.pc == 0xA000 && !t.irqPending && t.cyc == 7) = true := by decide

/-- W5, step 1: the NMI goes first and the IRQ stays pending. -/
theorem test_nmi_before_irq_w5 : after { start [0xEA] with nmiPending := true, irqPending := true }
    (fun t => t.pc == 0x9000 && !t.nmiPending && t.irqPending && t.flags == flags 0x04) = true := by decide

/-- W9: the three pushes wrap inside the stack region. -/
theorem test_nmi_wraps_w9 : after { start [0xEA] with sp := 0x01, flags := flags 0x04, nmiPending := true }
    (fun t => t.peek 0x0101 == some 0x80 && t.peek 0x0100 == some 0x00 && t.peek 0x01FF == some 0x24 &&
      t.sp == 0xFE) = true := by decide

/-- W1: reset loads the registers and `PC` and keeps RAM. -/
theorem test_reset_w1 : (match State.resetMove { start [] with
      a := 0x11, x := 0x22, y := 0x33, sp := 0x44, pc := 0x5555, flags := flags 0xDB, nmiPending := true
      irqPending := true, ram := [(0x0000, 0x5A), (0x07FF, 0x5A)], prg := [(0x7FFC, 0x23), (0x7FFD, 0xC1)] } with
    | .next t => t.a == 0x00 && t.x == 0x00 && t.y == 0x00 && t.sp == 0xFD && t.pc == 0xC123 && t.flags == flags 0x04 &&
        !t.nmiPending && !t.irqPending && t.peek 0x0000 == some 0x5A && t.peek 0x07FF == some 0x5A && t.devLog == []
    | _ => false) = true := by decide

/-- B1: one RAM byte under its four addresses. -/
theorem test_mirrors_b1 : ([0x0000, 0x0800, 0x1000, 0x1800] : List Word).all
    (fun a => (memWrite 0x0000 0x11 (start [])).peek a == some 0x11) = true := by decide

/-- B2: the top of the RAM window is RAM[0x7FF]. -/
theorem test_mirrors_b2 : (memWrite 0x1FFF 0x22 (start [])).ram = [(0x07FF, 0x22)] := by decide

/-- B3: a write to program data is discarded. -/
theorem test_prg_write_b3 : memWrite 0x8000 0x33 (start [0xEA]) = start [0xEA] := by decide

/-- B4, B9: LDA $2002 asks the device for offset 0x0002 and loads whatever it answers. -/
theorem test_device_read_b9 : step (start [0xAD, 0x02, 0x20]) = .next { start [0xAD, 0x02, 0x20] with
    a := Config.devRead 0 0x0002
    flags := setZN (Config.devRead 0 0x0002) (flags 0x00)
    pc := 0x8003
    devLog := [.read 0x0002 (Config.devRead 0 0x0002)]
    cyc := 4 } := by rfl

/-- B4: the last byte of the window, and a write. -/
theorem test_device_write_b4 : (memWrite 0x7FFF 0x80 (start [])).devLog = [.write 0x5FFF 0x80] ∧
    (memWrite 0x2000 0x80 (start [])).devLog = [.write 0x0000 0x80] := by decide

/-- B5: one bank appears in both slots. -/
theorem test_one_bank_b5 :
    let s := { start [] with bankCount := 1, prg := [(0x0123, 0x23), (0x3FFC, 0xFC)] }
    s.peek 0x8123 = some 0x23 ∧ s.peek 0xC123 = some 0x23 ∧ s.peek 0xBFFC = some 0xFC ∧ s.peek 0xFFFC = some 0xFC := by
  decide

/-- B7: three banks, the second selected. -/
theorem test_three_banks_b7 :
    let s := { start [] with bankCount := 3, bankSel := 1, prg := [(0x0000, 0xB0), (0x4000, 0xB1), (0x8000, 0xB2)] }
    s.peek 0x8000 = some 0xB1 ∧ s.peek 0xC000 = some 0xB2 ∧ s.selectBank 3 = .refused (.badBankIndex 3) :=
  ⟨by decide, by decide, rfl⟩

/-- B10, last step: code runs from RAM. -/
theorem test_code_in_ram_b10 : after { start [] with pc := 0x0200, ram := [(0x0200, 0xE8)] }
    (fun t => t.x == 0x01 && t.pc == 0x0201) = true := by decide

/-- B11: the operand byte of an instruction at 0xFFFF comes from 0x0000. -/
theorem test_fetch_wraps_b11 : after { start [] with pc := 0xFFFF, ram := [(0x0000, 0x77)], prg := [(0x7FFF, 0xA9)] }
    (fun t => t.a == 0x77 && t.pc == 0x0001) = true := by decide

/-- The host's placing of an instruction: the very next step after reset runs it. -/
theorem test_with_fetch_word :
    after (State.reset.withFetchWord 16 0x7FA9) (fun t => t.a == 0x7F && t.pc == 0x0002) = true ∧
    after (State.reset.withFetchWord 8 0xE8) (fun t => t.x == 0x01 && t.pc == 0x0001) = true ∧
    after ({ State.reset with pc := 0x7FFF }.withFetchWord 8 0xE8) (fun t => t.x == 0x01 && t.pc == 0x0001) = true := by
  decide

/-- R243: what a step reports, and that an interrupt entry reports no opcode. -/
theorem test_trace : traceStep (start [0xA9, 0x80]) = some { opcode := 0xA9, decoded := some (.lda, .immediate), after :=
      { a := 0x80, x := 0x00, y := 0x00, sp := 0xFD, pc := 0x8002, flags := flags 0x80 } } ∧
    traceStep { start [0xEA] with nmiPending := true } = none := by decide

/-- R4, D1: the three windows' decided bounds, and that each address at a bound is in its window. -/
theorem test_windows : (config.ramLo, config.ramHi) = (0x0000, 0x1FFF) ∧ (config.devLo, config.devHi) = (0x2000, 0x7FFF) ∧
    (config.prgLo, config.prgHi) = (0x8000, 0xFFFF) ∧ ramWindow 0x0000 ∧ ramWindow 0x1FFF ∧ deviceWindow 0x2000 ∧
    deviceWindow 0x7FFF ∧ prgWindow 0x8000 ∧ prgWindow 0xFFFF := by decide

/-! ## Witnesses: a concrete case for the hypotheses of each statement, clause by clause -/

/-- EncodeOfDecode. -/
theorem witness_encodeOfDecode : decode [0xAD, 0xFF, 0xFF, 0x02] = .ok (.ldaAbs 0xFFFF, [0x02]) ∧
    decode [0x00] = .ok (.brk, []) := by decide

/-- StepRunsDecodedInstruction: at 0x8000, and at 0xFFFF with an IRQ held. -/
theorem witness_stepRunsDecodedInstruction :
    (let s := start [0xAD, 0x34, 0x12]
     s.ready = true ∧ s.quiet ∧ s.peekBytes s.pc 3 = some [0xAD, 0x34, 0x12] ∧
       decode [0xAD, 0x34, 0x12] = .ok (.ldaAbs 0x1234, []) ∧ (Instr.ldaAbs 0x1234).wellFormed = true) ∧
    (let s := { start [] with pc := 0xFFFF, irqPending := true, flags := flags 0x04, prg := [(0x7FFF, 0xEA)] }
     s.ready = true ∧ s.quiet ∧ s.peekBytes s.pc 2 = some [0xEA, 0x00] ∧ decode [0xEA, 0x00] = .ok (.nop, [0x00]) ∧
       Instr.nop.wellFormed = true) := by decide

/-- StepFetchesThroughTheBus. -/
theorem witness_stepFetchesThroughTheBus :
    let s := start [0x4C, 0xFF, 0x7F]
    s.ready = true ∧ s.quiet ∧ (fetchBytes (Instr.jmpAbs 0x7FFF).mode.length s).1 = encode (.jmpAbs 0x7FFF) := by decide

/-- IllegalOpcodeIsTheOnlyFault: the least and the greatest illegal byte, and a step that faults. -/
theorem witness_illegalOpcode :
    ((start [0x02]).ready = true ∧ (start [0x02]).quiet ∧ (memRead 0x8000 (start [0x02])).1 ∈ illegalBytes) ∧
    ((start [0xFF]).ready = true ∧ (start [0xFF]).quiet ∧ (memRead 0x8000 (start [0xFF])).1 ∈ illegalBytes) ∧
    step (start [0xFF]) = .fault (.illegalOpcode 0xFF 0x8000 { start [0xFF] with pc := 0x8001 }) :=
  ⟨by decide, by decide, by rfl⟩

/-- StepCompletesUnlessIllegal: never reset; an interrupt in front of an illegal byte; a quiet step on a legal byte. -/
theorem witness_stepCompletes :
    (State.powerOn []).ready = false ∧
    ((start [0x02]).ready = true ∧ ¬ ({ start [0x02] with nmiPending := true }).quiet) ∧
    ((start [0xEA]).quiet ∧ (memRead 0x8000 (start [0xEA])).1 ∉ illegalBytes) := by decide

/-- NmiEntry and IrqEntry. -/
theorem witness_interruptEntry :
    (let s := { start [] with nmiPending := true }
     s.ready = true ∧ s.nmiPending = true) ∧
    (let s := { start [] with irqPending := true }
     s.ready = true ∧ s.nmiPending = false ∧ s.irqPending = true ∧ s.flags.i = false) := by decide

/-- MaskedIrqStaysPending, with a step that executes and one that takes an NMI. -/
theorem witness_maskedIrq :
    let s := { start [0xEA] with irqPending := true, flags := flags 0x04 }
    s.irqPending = true ∧ s.flags.i = true ∧ after s (fun _ => true) = true ∧
      after { s with nmiPending := true } (fun _ => true) = true := by decide

/-- UnmaskedIrqIsTakenNext: CLI with an IRQ held, and an instruction that leaves `I` at 0. -/
theorem witness_unmaskedIrq :
    (let s := { start [] with irqPending := true, flags := flags 0x04 }
     s.ready = true ∧ s.nmiPending = false ∧ s.irqPending = true ∧
       exec .cli s = .next { s with flags := flags 0x00, cyc := 2 } ∧ (flags 0x00).i = false) ∧
    (let s := { start [] with irqPending := true }
     s.ready = true ∧ s.nmiPending = false ∧ s.irqPending = true ∧ exec .nop s = .next { s with cyc := 2 } ∧
       s.flags.i = false) :=
  ⟨⟨rfl, rfl, rfl, rfl, rfl⟩, ⟨rfl, rfl, rfl, rfl, rfl⟩⟩

/-- StepKeepsInvariant, ProgramDataAndBanksAreFixed: a legal state, with the greatest bank selected, whose step completes. -/
theorem witness_legalStep :
    let s := { start [] with bankCount := 3, bankSel := 2, pc := 0x0000, ram := [(0x0000, 0x85), (0x0001, 0x10)], prg := [] }
    s.Inv ∧ after s (fun _ => true) = true := by decide

/-- HostMovesKeepInvariant: a legal state on which every move is made, and an install after power-on. -/
theorem witness_hostMoves :
    (start []).Inv ∧ completes (start []).resetMove ∧ completes ((start []).selectBank 1) ∧
    completes ((State.powerOn []).installBanks 1 (List.replicate 16384 0xEA)) := by
  refine ⟨by decide, ⟨_, rfl⟩, ⟨_, rfl⟩, ⟨{ State.powerOn [] with
    bankCount := 1, prg := Memory.ofBytes 0 (List.replicate 16384 0xEA), bankSel := 0 }, ?_⟩⟩
  simp only [State.installBanks, List.length_replicate]
  rfl

/-- DecimalIsInert. -/
theorem witness_decimal : (Instr.adcImm 0x19).op ∉ [Op.php, .plp, .brk, .rti, .sed, .cld] ∧
    (Instr.sbcImm 0x01).op ∉ [Op.php, .plp, .brk, .rti, .sed, .cld] := by decide

/-- FlagsHaveOnlyTheirWriters and RegistersHaveOnlyTheirWriters: NOP completes and is on no list; so does STA, of
another mode. -/
theorem witness_onlyTheirWriters :
    exec .nop (start []) = .next { start [] with cyc := 2 } ∧
    exec (.staZp 0x10) (start []) = .next { start [] with cyc := 3 } ∧
    (∀ o ∈ [Instr.nop.op, (Instr.staZp 0x10).op],
      o ∉ [Op.adc, .sbc, .cmp, .cpx, .cpy, .asl, .lsr, .rol, .ror, .clc, .sec, .plp, .rti, .lda, .ldx, .ldy, .tax, .tay,
        .txa, .tya, .tsx, .pla, .and, .ora, .eor, .inc, .dec, .inx, .iny, .dex, .dey, .bit, .sei, .cli, .brk, .sed, .cld,
        .clv, .pha, .php, .jsr, .rts, .txs, .jmp]) ∧
    Instr.nop.mode ≠ .accumulator ∧ Instr.nop.mode ≠ .relative :=
  ⟨rfl, rfl, by decide, by decide, by decide⟩

/-- NonStoringFrame: a load, and a shift of the accumulator. -/
theorem witness_nonStoring :
    let l := [Op.sta, .stx, .sty, .inc, .dec, .asl, .lsr, .rol, .ror, .pha, .php, .jsr, .brk]
    (exec (.ldaImm 0x01) (start []) = .next { start [] with a := 0x01, cyc := 2 } ∧ (Instr.ldaImm 0x01).op ∉ l) ∧
    (exec .lsrAcc (start []) = .next { start [] with flags := flags 0x02, cyc := 2 } ∧ Instr.lsrAcc.mode = .accumulator) :=
  ⟨⟨rfl, by decide⟩, ⟨rfl, rfl⟩⟩

/-- StoringFrame: a store and the two bytes next to it, across the mirror's edge. -/
theorem witness_storing :
    let s := { start [] with a := 0x01 }
    exec (.staAbs 0x0800) s = .next { s with ram := [(0x0000, 0x01)], cyc := 4 } ∧
    (Instr.staAbs 0x0800).op ∈ [Op.sta, .stx, .sty, .inc, .dec, .asl, .lsr, .rol, .ror] ∧
    (Instr.staAbs 0x0800).mode ≠ .accumulator ∧
    ¬ sameRamByte 0x0001 (resolve (Instr.staAbs 0x0800).operand s).1.ea ∧
    ¬ sameRamByte 0x07FF (resolve (Instr.staAbs 0x0800).operand s).1.ea ∧
    sameRamByte 0x1800 (resolve (Instr.staAbs 0x0800).operand s).1.ea :=
  ⟨rfl, by decide, by decide, by decide, by decide, by decide⟩

/-- PushingFrame: for PHA, JSR and BRK at `SP` = 0, the byte just below the last one stored. -/
theorem witness_pushing :
    let s := { start [] with sp := 0x00 }
    (completes (exec .pha s) ∧ Instr.pha.op ∈ [Op.pha, .php, .jsr, .brk] ∧ ¬ sameRamByte 0x01FF (stackAddr s.sp)) ∧
    (completes (exec (.jsr 0x8010) s) ∧ ¬ sameRamByte 0x01FE (stackAddr s.sp) ∧
      ¬ sameRamByte 0x01FE (stackAddr (s.sp - 1))) ∧
    (completes (exec .brk s) ∧ ¬ sameRamByte 0x01FD (stackAddr s.sp) ∧ ¬ sameRamByte 0x01FD (stackAddr (s.sp - 1)) ∧
      ¬ sameRamByte 0x01FD (stackAddr (s.sp - 2))) :=
  ⟨⟨⟨_, rfl⟩, by decide, by decide⟩, ⟨⟨_, rfl⟩, by decide, by decide⟩, ⟨⟨_, rfl⟩, by decide, by decide, by decide⟩⟩

/-- ZeroPageStaysInZeroPage: two states that differ from index 256 on only. -/
theorem witness_zeroPage :
    let s := { start [] with ram := [(0x00FF, 0x40)] }
    let t := { start [] with ram := [(0x00FF, 0x40), (0x0100, 0x07)] }
    t.x = s.x ∧ t.y = s.y ∧ ∀ k, k < 256 → t.ram.read k = s.ram.read k := by
  refine ⟨rfl, rfl, fun k hk => ?_⟩
  have h : k ≠ 0x0100 := by omega
  simp only [Memory.read, h, if_false]

/-- BusAccessByRegion: the first and last address of each window, none of them in two windows. -/
theorem witness_busRegions :
    ((0x0000 : Word) ≤ 0x1FFF ∧ (0x1FFF : Word) ≤ 0x1FFF) ∧
    (((0x2000 : Word) ≤ 0x2000 ∧ (0x2000 : Word) ≤ 0x7FFF) ∧ ((0x2000 : Word) ≤ 0x7FFF ∧ (0x7FFF : Word) ≤ 0x7FFF)) ∧
    ((0x8000 : Word) ≤ 0x8000 ∧ (0x8000 : Word) ≤ 0xFFFF) ∧
    region (start []) 0x1FFF = .ram 0x07FF ∧ region (start []) 0x2000 = .device 0x0000 ∧
    region (start []) 0x7FFF = .device 0x5FFF ∧ region (start []) 0x8000 = .prg 0x0000 ∧
    region (start []) 0xBFFF = .prg 0x3FFF ∧ region (start []) 0xC000 = .prg 0x4000 := by decide

/-- RamReadsBackThroughItsMirrors: both clauses, at the edges of the RAM window. -/
theorem witness_mirrors : (start []).Inv ∧ sameRamByte 0x0000 0x1800 ∧ sameRamByte 0x07FF 0x1FFF ∧
    ¬ sameRamByte 0x1FFF 0x2000 ∧ ¬ sameRamByte 0x8000 0x8000 := by decide

/-- BankSlots: the first and last offset of a bank, for each of the three clauses. -/
theorem witness_bankSlots : (0 < 16384 ∧ 16383 < 16384) ∧ ({ start [] with bankCount := 1 }).bankCount = 1 ∧
    (start []).bankCount = 2 ∧ 2 < ({ start [] with bankCount := 3 }).bankCount := by decide

/-- Loads, stores, ADC, SBC, logic, BIT, compares, INC and DEC: one instruction of each operation named. -/
theorem witness_operations :
    ((Instr.ldaImm 0x00).op = .lda ∧ (Instr.ldxZpy 0xFF).op = .ldx ∧ (Instr.ldyAbx 0xFFFF).op = .ldy) ∧
    ((Instr.staIzy 0xFF).op = .sta ∧ (Instr.stxZpy 0x00).op = .stx ∧ (Instr.styAbs 0x2000).op = .sty) ∧
    ((Instr.adcIzx 0xFE).op = .adc ∧ (Instr.sbcImm 0xFF).op = .sbc) ∧
    ((Instr.andZp 0x00).op = .and ∧ (Instr.oraAby 0x7FFF).op = .ora ∧ (Instr.eorAbs 0x8000).op = .eor) ∧
    (Instr.bitAbs 0x2002).op = .bit ∧
    ((Instr.cmpZpx 0xFF).op = .cmp ∧ (Instr.cpxImm 0x00).op = .cpx ∧ (Instr.cpyZp 0x10).op = .cpy) ∧
    ((Instr.incAbx 0x02FF).op = .inc ∧ (Instr.decZp 0x10).op = .dec) := by decide

/-- ShiftsAndRotates: an accumulator and a memory form of each of the four operations. -/
theorem witness_shiftsAndRotates :
    (Instr.aslAcc.op = .asl ∧ (Instr.aslZp 0x10).op = .asl) ∧ (Instr.lsrAcc.op = .lsr ∧ (Instr.lsrAbx 0x02FF).op = .lsr) ∧
    (Instr.rolAcc.op = .rol ∧ (Instr.rolZpx 0xFF).op = .rol) ∧ (Instr.rorAcc.op = .ror ∧ (Instr.rorAbs 0x9000).op = .ror) := by
  decide

/-- SubroutineCallAndReturn (last clause), PhaThenPlaRestores: a legal state, `SP` at the wrap. -/
theorem witness_stackRoundTrip : ({ start [] with sp := 0x00 }).Inv := by decide

/-- EntryThenRtiRestores: a legal state with an NMI, and one with an IRQ, to take. -/
theorem witness_entryThenRti :
    (let s := { start [] with sp := 0x01, nmiPending := true }
     s.Inv ∧ s.ready = true ∧ ¬ s.quiet) ∧
    (let s := { start [] with irqPending := true }
     s.Inv ∧ s.ready = true ∧ ¬ s.quiet) := by decide

/-- ResetMoveLoadsResetState: the least bank count. -/
theorem witness_resetMove : 1 ≤ State.reset.bankCount := by decide

/-- SelectBankStoresValidIndex: the greatest valid and the least invalid index, and a completed move with two banks. -/
theorem witness_selectBank : 1 < (start []).bankCount ∧ (start []).bankCount ≤ 2 ∧
    (start []).selectBank 1 = .next { start [] with bankSel := 1 } := ⟨by decide, by decide, rfl⟩

/-- InstallPlacesTheProgram: one bank that fits, none, and one byte too few. -/
theorem witness_install : (State.powerOn []).ready = false ∧ 1 ≤ 1 ∧
    (List.replicate 16384 (0xEA : Byte)).length = 1 * 16384 ∧ (List.replicate 16383 (0xEA : Byte)).length ≠ 1 * 16384 := by
  refine ⟨rfl, Nat.le_refl 1, ?_, ?_⟩
  · rw [List.length_replicate]
  · rw [List.length_replicate]; omega

/-- PowerOnSequenceReachesReset: two banks. -/
theorem witness_powerOn : 1 ≤ 2 ∧ (List.replicate 32768 (0xEA : Byte)).length = 2 * 16384 := by
  refine ⟨by omega, ?_⟩
  rw [List.length_replicate]

end Sys2Proof.Tests
end

section
/-! SUPPORT. The bits of the status byte (10_state.md R18, R19), from the packing law of Laws/Interrupt. -/

namespace Sys2Proof.Machine

/-- R19: the seven flags a pull writes, each the bit at its own position; bit 5 and the old flags do not occur. -/
theorem unpackP_stored (p : Byte) (old : Flags) : unpackP .stored p old =
    { n := p.getLsbD 7, v := p.getLsbD 6, b := p.getLsbD 4, d := p.getLsbD 3, i := p.getLsbD 2, z := p.getLsbD 1,
      c := p.getLsbD 0 } := rfl

/-- Settles O32: under the configured `stored` break model, packing and unpacking follow the table of R18. -/
theorem statusByteLayout : Obligations.StatusByteLayout :=
  ⟨packP_stored, unpackP_stored⟩

end Sys2Proof.Machine
end

section
/-! SUPPORT. What the two bank slots show (20_memory.md R47 to R49), and the host's moves `select_bank` (R51) and
`install_program_banks` (R52) as equations on the state. -/

namespace Sys2Proof.Machine

/-- R49, C7: with at most two banks slot 0 shows bank 0, whatever `BANKSEL` is. -/
theorem slotBank_zero_of_le_two {s : State} (h : s.bankCount ≤ 2) : slotBank s 0 = 0 :=
  if_neg (Nat.not_lt.mpr h)

/-- R49: with more than two banks slot 0 shows the selected bank. -/
theorem slotBank_zero_of_two_lt {s : State} (h : 2 < s.bankCount) : slotBank s 0 = s.bankSel :=
  if_pos h

/-- R48, R49: slot 1 always shows the last bank. -/
theorem slotBank_one (s : State) : slotBank s 1 = s.bankCount - 1 := rfl

/-- R47: the address at offset `k` of a slot shows byte `k` of the slot's bank. -/
theorem peek_slot (s : State) {slot k : Nat} (hslot : slot < 2) (hk : k < 16384) :
    s.peek (BitVec.ofNat 16 (0x8000 + slot * 16384 + k)) = some (s.prg.read (slotBank s slot * 16384 + k)) := by
  have ha : (BitVec.ofNat 16 (0x8000 + slot * 16384 + k)).toNat = 0x8000 + slot * 16384 + k := by
    rw [BitVec.toNat_ofNat]; omega
  have hle : (0x8000 : Word) ≤ BitVec.ofNat 16 (0x8000 + slot * 16384 + k) := by
    rw [BitVec.le_def, ha, show (0x8000 : Word).toNat = 0x8000 from rfl]; omega
  have hdiv : (0x8000 + slot * 16384 + k - 0x8000) / 16384 = slot := by omega
  have hmod : (0x8000 + slot * 16384 + k) % 16384 = k := by omega
  simp only [State.peek, region_prg s hle, ha, hdiv, hmod]

/-- Settles O31: the bank each slot shows, in the three cases of the bank count. -/
theorem bankSlots : Obligations.BankSlots := by
  intro s k hk
  have h0 := peek_slot s (slot := 0) (by omega) hk
  have h1 := peek_slot s (slot := 1) (by omega) hk
  rw [slotBank_one] at h1
  have hfirst (h : s.bankCount ≤ 2) : s.peek (BitVec.ofNat 16 (0x8000 + k)) = some (s.prg.read k) := by
    simpa [slotBank_zero_of_le_two h] using h0
  refine ⟨fun hone => ⟨hfirst (by omega), ?_⟩, fun htwo => ⟨hfirst (by omega), ?_⟩, fun hmore => ⟨?_, h1⟩⟩
  · simpa [hone] using h1
  · simpa [htwo] using h1
  · rwa [slotBank_zero_of_two_lt hmore] at h0

/-- R51: a valid index is stored and nothing else changes. -/
theorem selectBank_of_lt {s : State} {n : Nat} (h : n < s.bankCount) :
    s.selectBank n = .next { s with bankSel := n } := if_pos h

/-- R51: any other index is refused. -/
theorem selectBank_of_le {s : State} {n : Nat} (h : s.bankCount ≤ n) :
    s.selectBank n = .refused (.badBankIndex n) := if_neg (Nat.not_lt.mpr h)

/-- A completed `select_bank` had a valid index and stored it. -/
theorem selectBank_next {s t : State} {n : Nat} (h : s.selectBank n = .next t) :
    n < s.bankCount ∧ t = { s with bankSel := n } := by
  rcases Nat.lt_or_ge n s.bankCount with hn | hn
  · rw [selectBank_of_lt hn] at h
    cases h
    exact ⟨hn, rfl⟩
  · rw [selectBank_of_le hn] at h
    cases h

/-- C7: with at most two banks neither slot depends on `BANKSEL`. -/
theorem slotBank_bankSel_of_le_two {s : State} (h : s.bankCount ≤ 2) (n slot : Nat) :
    slotBank { s with bankSel := n } slot = slotBank s slot := by
  by_cases hs : slot = 0
  · subst hs
    rw [slotBank_zero_of_le_two h, slotBank_zero_of_le_two (s := { s with bankSel := n }) h]
  · exact (if_neg hs).trans (if_neg hs).symm

/-- R51: with at most two banks the bus shows the same bytes whatever `BANKSEL` is. -/
theorem peek_bankSel_of_le_two {s : State} (h : s.bankCount ≤ 2) (n : Nat) (a : Word) :
    State.peek { s with bankSel := n } a = s.peek a := by
  simp only [State.peek, region, slotBank_bankSel_of_le_two h]

/-- Settles O56: the move stores a valid index, and with at most two banks no slot depends on what it stores. -/
theorem selectBankStoresValidIndex : Obligations.SelectBankStoresValidIndex := by
  refine fun s n => ⟨selectBank_of_lt, selectBank_of_le, fun hcount t a ht => ?_⟩
  obtain ⟨-, rfl⟩ := selectBank_next ht
  exact peek_bankSel_of_le_two hcount n a

/-- R52: before the first reset, a program of the right size is placed. -/
theorem installBanks_of_fits {s : State} {n : Nat} {bytes : List Byte} (hready : s.ready = false) (hn : 1 ≤ n)
    (hlen : bytes.length = n * 16384) :
    s.installBanks n bytes = .next { s with bankCount := n, prg := Memory.ofBytes 0 bytes, bankSel := 0 } :=
  (if_neg (by simp [hready])).trans (if_pos ⟨hn, hlen⟩)

/-- R52: before the first reset, no bank or a wrong number of bytes is refused. -/
theorem installBanks_of_not_fits {s : State} {n : Nat} {bytes : List Byte} (hready : s.ready = false)
    (h : n = 0 ∨ bytes.length ≠ n * 16384) : s.installBanks n bytes = .refused .badInstall := by
  have hbad : ¬ (n ≥ 1 ∧ bytes.length = n * config.bankSize) := by
    rintro ⟨hn, hlen⟩
    rcases h with rfl | hne
    · omega
    · exact hne hlen
  exact (if_neg (by simp [hready])).trans (if_neg hbad)

/-- Settles O57: the placed memory reads back as the given bytes. -/
theorem installPlacesTheProgram : Obligations.InstallPlacesTheProgram := by
  refine fun s n bytes hready => ⟨fun hn hlen => ?_, installBanks_of_not_fits hready⟩
  have hread (k : Nat) : (Memory.ofBytes 0 bytes).read k = bytes.getD k 0 := by
    have h := Memory.ofBytes_read (k := 0) (j := k) (bs := bytes)
    rwa [Nat.zero_add] at h
  exact ⟨_, installBanks_of_fits hready hn hlen, rfl, rfl, hread, rfl⟩

end Sys2Proof.Machine
end

section
/-! SUPPORT. The illegal opcode bytes (30_encoding.md R84, R87) and the signal they raise (60_exceptions.md R221): when
a step faults, and the state the fault leaves. -/

namespace Sys2Proof.Machine

/-- R84, R88: with `UNOFFICIAL` empty the opcode map alone selects the row. -/
theorem rowOfByte_eq_find? (b : Byte) : rowOfByte b = opcodeMap.find? fun r => r.opcode == b := by
  unfold rowOfByte
  split
  next hrow => exact hrow.symm
  next hnone => exact hnone.symm

/-- R84: a byte decodes to nothing exactly when no row of the opcode map carries it. -/
theorem decodeOpcode_eq_none_iff {b : Byte} :
    decodeOpcode b = none ↔ b ∉ opcodeMap.map fun r => r.opcode := by
  rw [decodeOpcode, Option.map_eq_none_iff, rowOfByte_eq_find?, List.find?_eq_none]
  simp

/-- R87: the list of the illegal bytes is the complement of the opcode map among the 256 bytes. -/
theorem notMem_opcodes_iff : ∀ b : Byte, (b ∉ opcodeMap.map fun r => r.opcode) ↔ b ∈ illegalBytes := by
  set_option maxRecDepth 20000 in decide

/-- R84, R87: a byte decodes to nothing exactly when it is listed as illegal. -/
theorem decodeOpcode_eq_none_iff_illegal (b : Byte) : decodeOpcode b = none ↔ b ∈ illegalBytes :=
  decodeOpcode_eq_none_iff.trans (notMem_opcodes_iff b)

/-- A bus read changes nothing but the record of device accesses. -/
theorem memRead_state (addr : Word) (s : State) :
    (memRead addr s).2 = { s with devLog := (memRead addr s).2.devLog } := by
  apply State.ext <;> simp

/-- A step of a reset core faults only after fetching, with no interrupt serviceable, a byte that decodes to nothing. -/
theorem step_fault {s : State} {f : Fault} (h : step s = .fault f) :
    s.ready = true ∧ s.quiet ∧ decodeOpcode (memRead s.pc s).1 = none := by
  unfold step at h
  split at h
  next hready =>
    split at h
    next => cases h
    next hservice =>
      refine ⟨hready, serviceInterrupt_eq_none.mp hservice, ?_⟩
      by_contra hlegal
      obtain ⟨i, u, hfetch⟩ := fetchInstr_legal hlegal
      obtain ⟨t, ht⟩ := exec_completes i u
      simp [hfetch, ht] at h
  next => cases h

/-- R221: fetching a byte that decodes to nothing ends a quiet step with the signal, `PC` just past that byte. -/
theorem step_illegal {s : State} (hready : s.ready = true) (hquiet : s.quiet)
    (hop : decodeOpcode (memRead s.pc s).1 = none) :
    step s = .fault (.illegalOpcode (memRead s.pc s).1 s.pc
      { s with pc := s.pc + 1, devLog := (memRead s.pc s).2.devLog }) := by
  have hleft : (fetch8 s).2 = { s with pc := s.pc + 1, devLog := (memRead s.pc s).2.devLog } := by
    rw [fetch8, memRead_state]
  simp [step, hready, serviceInterrupt_eq_none.mpr hquiet, fetchInstr_illegal hop, fetchFault, hleft]

/-- Settles O6: the opcode map leaves out exactly the listed bytes, a byte it leaves out raises the signal, and the
inversion `step_fault` finds such a byte behind every fault. -/
theorem illegalOpcodeIsTheOnlyFault : Obligations.IllegalOpcodeIsTheOnlyFault := by
  refine ⟨decodeOpcode_eq_none_iff_illegal, fun s hready hquiet hop => ?_, fun s f hf => ?_⟩
  · exact step_illegal hready hquiet ((decodeOpcode_eq_none_iff_illegal _).mpr hop)
  · obtain ⟨hready, hquiet, hop⟩ := step_fault hf
    rw [step_illegal hready hquiet hop] at hf
    cases hf
    exact ⟨_, _, rfl, (decodeOpcode_eq_none_iff_illegal _).mp hop⟩

end Sys2Proof.Machine
end

section
/-! SUPPORT. Operand access for each kind of operand source (40_addressing_modes.md R115, R116), one equation per kind. -/

namespace Sys2Proof.Machine

@[simp] theorem readOperand_addr (ea : Word) (crossed : Bool) (s : State) :
    readOperand (.addr ea crossed) s = memRead ea s := rfl

@[simp] theorem readOperand_imm (m : Byte) (s : State) : readOperand (.imm m) s = (m, s) := rfl

@[simp] theorem readOperand_noOperand (s : State) : readOperand .noOperand s = (s.a, s) := rfl

@[simp] theorem writeOperand_addr (ea : Word) (crossed : Bool) (v : Byte) (s : State) :
    writeOperand (.addr ea crossed) v s = memWrite ea v s := rfl

@[simp] theorem writeOperand_noOperand (v : Byte) (s : State) : writeOperand .noOperand v s = { s with a := v } := rfl

theorem operandValue_eq_readOperand_resolve (o : Operand) (s : State) :
    operandValue o s = readOperand (resolve o s).1 (resolve o s).2 := rfl

/-- Settles O28: one equation for each kind of operand source, and an operation's value through the resolver. -/
theorem operandAccess : Obligations.OperandAccess := fun s o ea c v m =>
  ⟨readOperand_addr ea c s, readOperand_imm m s, readOperand_noOperand s, writeOperand_addr ea c v s,
    writeOperand_noOperand v s, operandValue_eq_readOperand_resolve o s⟩

end Sys2Proof.Machine
end

section
/-! SUPPORT. Loads, stores and register transfers (41_load_store_transfer.md R121 to R132) as equations on the state:
what an operation that reads its operand, one that stores and one without operand leave as the next state. -/

namespace Sys2Proof.Machine

/-- R17: `N` is the top bit of the value. -/
theorem setZN_eq (v : Byte) (f : Flags) : setZN v f = { f with z := v == 0, n := v.msb } := by
  rw [setZN, bit7_eq_msb]

/-- A reading operation applies its effect to the operand's value on a state that differs from the old one only in the
record of device accesses (R115), and costs the cycles of column "read" of R263. -/
theorem exec_reads_eq {i : Instr} {f : Byte → State → State} (h : readEffect i.op = some f) (s : State) :
    exec i s = .next (addCycles (readCycles i.mode (resolve i.operand s).1.crossed)
      (f (operandValue i.operand s).1 { s with devLog := (operandValue i.operand s).2.devLog })) := by
  rw [exec_reads h, readState, ← operandValue_state]

/-- Every form of a store has an effective address (R124 to R126). -/
theorem resolve_addr_of_stores {i : Instr} {reg : State → Byte} (h : storedRegister i.op = some reg) (s : State) :
    ∃ ea crossed, (resolve i.operand s).1 = .addr ea crossed := by
  cases i with
  | staZp | staZpx | staAbs | staAbx | staAby | staIzx | staIzy | stxZp | stxZpy | stxAbs | styZp | styZpx | styAbs =>
    exact ⟨_, _, rfl⟩
  | _ => cases h

/-- No bus write reads `CYC` (R28), so its cycles may be counted before it. -/
theorem memWrite_addCycles (n : Nat) (ea : Word) (v : Byte) (s : State) :
    memWrite ea v (addCycles n s) = addCycles n (memWrite ea v s) :=
  (memWrite_flags_cyc ea v s s.flags (s.cyc + n)).trans (by apply State.ext <;> simp)

/-- A store makes one bus write at its effective address, on the state its resolver leaves. -/
theorem exec_stores_eq {i : Instr} {reg : State → Byte} (h : storedRegister i.op = some reg) (s : State) :
    exec i s = .next (memWrite (resolve i.operand s).1.ea (reg s)
      { (resolve i.operand s).2 with cyc := s.cyc + writeCycles i.mode }) := by
  obtain ⟨ea, crossed, haddr⟩ := resolve_addr_of_stores h s
  rw [exec_stores h, storeState, haddr, writeOperand_addr, ← memWrite_addCycles, addCycles, resolve_cyc]
  rfl

/-- Settles O33: the rows by evaluation of the opcode map, each load as its effect on the value read. -/
theorem loadsReadTheirOperand : Obligations.LoadsReadTheirOperand := by
  refine ⟨rfl, rfl, rfl, fun i s => ⟨fun h => ?_, fun h => ?_, fun h => ?_⟩⟩
  · rw [exec_reads_eq (f := ldaEffect) (by rw [h]; rfl), ldaEffect, setZN_eq]
    rfl
  · rw [exec_reads_eq (f := ldxEffect) (by rw [h]; rfl), ldxEffect, setZN_eq]
    rfl
  · rw [exec_reads_eq (f := ldyEffect) (by rw [h]; rfl), ldyEffect, setZN_eq]
    rfl

/-- Settles O34: the rows by evaluation of the opcode map, each store as one bus write of its register. -/
theorem storesWriteTheirRegister : Obligations.StoresWriteTheirRegister :=
  ⟨rfl, rfl, rfl, fun _ s =>
    ⟨fun h => exec_stores_eq (reg := State.a) (by rw [h]; rfl) s,
      fun h => exec_stores_eq (reg := State.x) (by rw [h]; rfl) s,
      fun h => exec_stores_eq (reg := State.y) (by rw [h]; rfl) s⟩⟩

/-- Settles O35: each transfer as the effect of its operation; `setZN_eq` gives the flags of all but TXS. -/
theorem transfersMoveRegisters : Obligations.TransfersMoveRegisters := by
  refine ⟨by decide, fun s => ?_⟩
  simp only [← setZN_eq]
  exact ⟨exec_implied (f := taxEffect) rfl s, exec_implied (f := tayEffect) rfl s, exec_implied (f := txaEffect) rfl s,
    exec_implied (f := tyaEffect) rfl s, exec_implied (f := tsxEffect) rfl s, exec_implied (f := txsEffect) rfl s⟩

end Sys2Proof.Machine
end

section
/-! SUPPORT. Arithmetic, logic, compare, increment and decrement (42_arithmetic_logic.md R141 to R158): ADC and SBC as
numbers, the flags of a compare as numbers, and a read-modify-write as one bus read and one bus write. -/

namespace Sys2Proof.Machine

theorem flagNat_le_one (b : Bool) : flagNat b ≤ 1 := by cases b <;> decide

/-- Masking with 0x80 tests the top bit. -/
theorem and_signBit_bne_zero (x : Byte) : (x &&& 0x80 != 0) = x.msb := by
  have hmask : x &&& 0x80 = if x.msb then 0x80 else 0 := BitVec.and_twoPow x 7
  rw [hmask]
  cases x.msb <;> rfl

/-- R141: the result's sign differs from the sign of both addends exactly when the signed sum leaves -128 to 127. -/
theorem signChange_eq_signedOverflow (a m : Byte) (carry : Bool) :
    let r := BitVec.ofNat 8 (a.toNat + m.toNat + flagNat carry)
    let e := a.toInt + m.toInt + (flagNat carry : Int)
    ((a ^^^ r) &&& (m ^^^ r) &&& 0x80 != 0) = decide (e < -128 ∨ 127 < e) := by
  intro r e
  have hr : r.toNat = (a.toNat + m.toNat + flagNat carry) % 256 := BitVec.toNat_ofNat ..
  have hcarry := flagNat_le_one carry
  rw [and_signBit_bne_zero, BitVec.msb_and, BitVec.msb_xor, BitVec.msb_xor, Bool.eq_iff_iff, decide_eq_true_iff]
  simp only [e, BitVec.toInt_eq_msb_cond, BitVec.msb_eq_decide, hr]
  by_cases hA : 128 ≤ a.toNat <;> by_cases hM : 128 ≤ m.toNat <;> simp [hA, hM] <;> omega

/-- R141: ADC as numbers. -/
theorem addWithCarry_eq (a m : Byte) (f : Flags) : addWithCarry a m f =
    let c := flagNat f.c
    let r := BitVec.ofNat 8 (a.toNat + m.toNat + c)
    let e := a.toInt + m.toInt + (c : Int)
    (r, { f with
      c := decide (255 < a.toNat + m.toNat + c), v := decide (e < -128 ∨ 127 < e), z := r == 0, n := r.msb }) := by
  rw [addWithCarry, signChange_eq_signedOverflow, setZN_eq]

/-- R142: the difference with an inverted borrow is the sum with the complement. -/
theorem ofInt_sub_borrow_eq_ofNat_add_not (a m : Byte) (carry : Bool) :
    BitVec.ofInt 8 ((a.toNat : Int) - m.toNat - (1 - flagNat carry)) =
      BitVec.ofNat 8 (a.toNat + (~~~m).toNat + flagNat carry) := by
  apply BitVec.eq_of_toNat_eq
  rw [BitVec.toNat_ofInt, BitVec.toNat_ofNat, BitVec.toNat_not]
  omega

/-- R142: SBC of `m` is ADC of the complement of `m`, result and flags. -/
theorem subtractWithBorrow_eq_addWithCarry_not (a m : Byte) (f : Flags) :
    subtractWithBorrow a m f = addWithCarry a (~~~m) f := by
  have hcarry : decide ((a.toNat : Int) - m.toNat - (1 - flagNat f.c) ≥ 0) =
      decide (a.toNat + (~~~m).toNat + flagNat f.c > 255) := by
    rw [BitVec.toNat_not, decide_eq_decide]
    omega
  have hsign (r : Byte) : (a ^^^ m) &&& (a ^^^ r) = (a ^^^ r) &&& (~~~m ^^^ r) := by
    ext i hi
    simp only [BitVec.getElem_and, BitVec.getElem_xor, BitVec.getElem_not]
    cases a[i] <;> cases m[i] <;> cases r[i] <;> rfl
  simp only [subtractWithBorrow, addWithCarry, ofInt_sub_borrow_eq_ofNat_add_not, hcarry, hsign]

/-- R142: SBC as numbers. -/
theorem subtractWithBorrow_eq (a m : Byte) (f : Flags) :
    let borrow := if f.c then 0 else 1
    let r := a - m - BitVec.ofNat 8 borrow
    let e := a.toInt - m.toInt - (borrow : Int)
    subtractWithBorrow a m f = (r, { f with
      c := decide (m.toNat + borrow ≤ a.toNat), v := decide (e < -128 ∨ 127 < e), z := r == 0, n := r.msb }) := by
  intro borrow r e
  have hborrow : borrow + flagNat f.c = 1 := by cases hf : f.c <;> simp [borrow, flagNat, hf]
  have hnot : (~~~m).toNat = 255 - m.toNat := BitVec.toNat_not
  have hr : BitVec.ofNat 8 (a.toNat + (~~~m).toNat + flagNat f.c) = r := by
    apply BitVec.eq_of_toNat_eq
    simp only [r, BitVec.toNat_sub, BitVec.toNat_ofNat, hnot]
    omega
  have he : a.toInt + (~~~m).toInt + (flagNat f.c : Int) = e := by
    simp only [e, BitVec.toInt_eq_toNat_cond, hnot]
    omega
  have hcarry : (255 < a.toNat + (~~~m).toNat + flagNat f.c) = (m.toNat + borrow ≤ a.toNat) := by
    rw [hnot, eq_iff_iff]
    omega
  simp only [subtractWithBorrow_eq_addWithCarry_not, addWithCarry_eq, hr, he, hcarry]

/-- R158: the flags of a compare as numbers; the incoming `C` does not occur. -/
theorem compareFlags_eq (reg m : Byte) (f : Flags) : compareFlags reg m f =
    { f with
      c := decide (m.toNat ≤ reg.toNat), z := reg == m
      n := decide (128 ≤ (reg.toNat + 256 - m.toNat) % 256) } := by
  have hdiff : (reg - m).toNat = (reg.toNat + 256 - m.toNat) % 256 := by
    rw [BitVec.toNat_sub]
    omega
  rw [compareFlags, bit7_eq_msb, BitVec.msb_eq_decide, hdiff]
  rfl

/-- Settles O36: the rows by evaluation of the opcode map, ADC as numbers by `addWithCarry_eq`. -/
theorem adcAddsWithCarry : Obligations.AdcAddsWithCarry := by
  refine ⟨rfl, fun i s h => ?_⟩
  rw [exec_reads_eq (f := adcEffect) (by rw [h]; rfl), adcEffect, addWithCarry_eq]
  rfl

/-- Settles O37: SBC is ADC of the complement in result and flags, and as numbers the difference with a borrow. -/
theorem sbcSubtractsWithBorrow : Obligations.SbcSubtractsWithBorrow := by
  refine ⟨rfl, fun m s => ?_, fun i s h => ?_⟩
  · have heffect : sbcEffect m s = adcEffect (~~~m) s := by
      rw [sbcEffect, adcEffect, subtractWithBorrow_eq_addWithCarry_not]
    exact congrArg (fun t => Host.Outcome.next (addCycles 2 t)) heffect
  · rw [exec_reads_eq (f := sbcEffect) (by rw [h]; rfl), sbcEffect, subtractWithBorrow_eq]
    rfl

/-- Settles O38: each operation as its effect on the value read; `setZN_eq` gives its flags. -/
theorem logicOperations : Obligations.LogicOperations := by
  refine ⟨rfl, rfl, rfl, fun i s => ⟨fun h => ?_, fun h => ?_, fun h => ?_⟩⟩
  · rw [exec_reads_eq (f := andEffect) (by rw [h]; rfl), andEffect, setZN_eq]
    rfl
  · rw [exec_reads_eq (f := oraEffect) (by rw [h]; rfl), oraEffect, setZN_eq]
    rfl
  · rw [exec_reads_eq (f := eorEffect) (by rw [h]; rfl), eorEffect, setZN_eq]
    rfl

/-- Settles O39: the flags of `bitTest` are the statement's, by definition. -/
theorem bitTestsItsOperand : Obligations.BitTestsItsOperand :=
  ⟨rfl, fun _ s h => exec_reads_eq (f := bitEffect) (by rw [h]; rfl) s⟩

/-- Settles O40: each compare as its effect on the value read; `compareFlags_eq` gives its flags. -/
theorem comparesSetFlagsOnly : Obligations.ComparesSetFlagsOnly := by
  refine ⟨rfl, rfl, rfl, fun i s => ⟨fun h => ?_, fun h => ?_, fun h => ?_⟩⟩
  · rw [exec_reads_eq (f := cmpEffect) (by rw [h]; rfl), cmpEffect, compareFlags_eq]
    rfl
  · rw [exec_reads_eq (f := cpxEffect) (by rw [h]; rfl), cpxEffect, compareFlags_eq]
    rfl
  · rw [exec_reads_eq (f := cpyEffect) (by rw [h]; rfl), cpyEffect, compareFlags_eq]
    rfl

/-- R57: a read-modify-write of memory makes one bus read and then one bus write, both at its effective address. -/
theorem exec_modifies_memory_eq {i : Instr} {f : Byte → Flags → Byte × Flags} {s : State}
    (h : modifyFunction i.op = some f)
    (haddr : ∃ ea crossed, (resolve i.operand s).1 = .addr ea crossed) :
    let ea := (resolve i.operand s).1.ea
    let m := memRead ea (resolve i.operand s).2
    exec i s = .next (memWrite ea (f m.1 s.flags).1 { m.2 with
      flags := (f m.1 s.flags).2
      cyc := s.cyc + modifyCycles i.mode }) := by
  intro ea m
  obtain ⟨ea', crossed, haddr⟩ := haddr
  have hea : ea = ea' := congrArg OperandSource.ea haddr
  have hm : operandValue i.operand s = m := by
    rw [operandValue_eq_readOperand_resolve, haddr, readOperand_addr, ← hea]
  have hcyc : (memWrite ea (f m.1 s.flags).1 m.2).cyc = s.cyc := by simp [m]
  rw [exec_modifies h, modifyState, hm, haddr, writeOperand_addr, ← hea, addCycles,
    memWrite_flags_cyc ea _ m.2 (f m.1 s.flags).2 (s.cyc + modifyCycles i.mode), ← hcyc]

/-- Every form of INC and DEC has an effective address (R150, R151). -/
theorem resolve_addr_of_inc_or_dec {i : Instr} (h : i.op = .inc ∨ i.op = .dec) (s : State) :
    ∃ ea crossed, (resolve i.operand s).1 = .addr ea crossed := by
  cases i with
  | incZp | incZpx | incAbs | incAbx | decZp | decZpx | decAbs | decAbx => exact ⟨_, _, rfl⟩
  | _ => simp [Instr.op] at h

/-- R150: INC as a number. -/
theorem add_one_eq_ofNat (m : Byte) : m + 1 = BitVec.ofNat 8 ((m.toNat + 1) % 256) := by
  apply BitVec.eq_of_toNat_eq
  simp [BitVec.toNat_add]

/-- R151: DEC as a number. -/
theorem sub_one_eq_ofNat (m : Byte) : m - 1 = BitVec.ofNat 8 ((m.toNat + 255) % 256) := by
  apply BitVec.eq_of_toNat_eq
  simp [BitVec.toNat_sub, Nat.add_comm]

/-- Settles O41: one bus read and one bus write by `exec_modifies_memory_eq`, the results as numbers. -/
theorem memoryIncrementAndDecrement : Obligations.MemoryIncrementAndDecrement := by
  refine ⟨rfl, rfl, fun i s => ?_⟩
  simp only [← add_one_eq_ofNat, ← sub_one_eq_ofNat, ← setZN_eq]
  exact ⟨fun h => exec_modifies_memory_eq (f := increment) (by rw [h]; rfl) (resolve_addr_of_inc_or_dec (.inl h) s),
    fun h => exec_modifies_memory_eq (f := decrement) (by rw [h]; rfl) (resolve_addr_of_inc_or_dec (.inr h) s)⟩

/-- Settles O42: each instruction as the effect of its operation; `setZN_eq` gives its flags. -/
theorem registerIncrementAndDecrement : Obligations.RegisterIncrementAndDecrement := by
  refine ⟨by decide, fun s => ?_⟩
  simp only [← setZN_eq]
  exact ⟨exec_implied (f := inxEffect) rfl s, exec_implied (f := inyEffect) rfl s,
    exec_implied (f := dexEffect) rfl s, exec_implied (f := deyEffect) rfl s⟩

end Sys2Proof.Machine
end

section
/-! SUPPORT. Shifts and rotates (43_shift_rotate.md R170 to R174): the four operations as numbers, and a
read-modify-write of any operand, the accumulator or memory, as one operand read and one operand write. -/

namespace Sys2Proof.Machine

/-- R171, R173: the bit a left shift evicts, as a number. -/
theorem bit7_eq_decide (m : Byte) : bit m 7 = decide (128 ≤ m.toNat) := by
  rw [bit7_eq_msb, BitVec.msb_eq_decide]

/-- R172, R174: the bit a right shift evicts, as a number. -/
theorem bit0_eq_decide (m : Byte) : bit m 0 = decide (m.toNat % 2 = 1) := by
  rw [bit, BitVec.getLsbD, Nat.testBit_zero]

/-- R171: a left shift by one as a number. -/
theorem shiftLeft_one_eq_ofNat (m : Byte) : m <<< 1 = BitVec.ofNat 8 (2 * m.toNat % 256) := by
  apply BitVec.eq_of_toNat_eq
  rw [BitVec.toNat_shiftLeft, BitVec.toNat_ofNat, Nat.shiftLeft_eq]
  omega

/-- R172: a right shift by one as a number. -/
theorem ushiftRight_one_eq_ofNat (m : Byte) : m >>> 1 = BitVec.ofNat 8 (m.toNat / 2) := by
  have hlt := m.isLt
  apply BitVec.eq_of_toNat_eq
  rw [BitVec.toNat_ushiftRight, BitVec.toNat_ofNat, Nat.shiftRight_eq_div_pow]
  omega

/-- Putting the carry into a bit that is clear adds its place value. -/
theorem or_carry_eq_add {r : Byte} {j : Nat} (hclear : r.getLsbD j = false) (carry : Bool) :
    r ||| BitVec.ofNat 8 (flagNat carry * 2 ^ j) = r + BitVec.ofNat 8 (flagNat carry * 2 ^ j) := by
  have hdisjoint : r &&& BitVec.ofNat 8 (flagNat carry * 2 ^ j) = 0#8 := by
    cases carry with
    | false => simp [flagNat]
    | true =>
      have hplace : BitVec.ofNat 8 (flagNat true * 2 ^ j) = BitVec.twoPow 8 j := by
        apply BitVec.eq_of_toNat_eq
        simp [flagNat]
      rw [hplace, BitVec.and_twoPow, hclear]
      rfl
  exact (BitVec.add_eq_or_of_and_eq_zero _ _ hdisjoint).symm

/-- R173: a left shift leaves bit 0 clear, so the prior carry adds 1 there. -/
theorem shiftLeft_one_or_carry_eq_ofNat (m : Byte) (carry : Bool) :
    (m <<< 1) ||| BitVec.ofNat 8 (flagNat carry) = BitVec.ofNat 8 (2 * m.toNat % 256 + flagNat carry) := by
  have hadd := or_carry_eq_add (r := m <<< 1) (j := 0) (by simp) carry
  rw [pow_zero, mul_one] at hadd
  rw [hadd, shiftLeft_one_eq_ofNat, BitVec.ofNat_add]

/-- R174: a right shift leaves bit 7 clear, so the prior carry adds 128 there. -/
theorem ushiftRight_one_or_carry_eq_ofNat (m : Byte) (carry : Bool) :
    (m >>> 1) ||| BitVec.ofNat 8 (flagNat carry * 128) = BitVec.ofNat 8 (m.toNat / 2 + 128 * flagNat carry) := by
  have hadd := or_carry_eq_add (r := m >>> 1) (j := 7) (by simp) carry
  rw [show 2 ^ 7 = 128 from rfl] at hadd
  rw [hadd, ushiftRight_one_eq_ofNat, ← BitVec.ofNat_add, mul_comm]

/-- A shifted byte of value `k` with the evicted bit, and the flags they set (R170). -/
def shifted (k : Nat) (carry : Bool) (f : Flags) : Byte × Flags :=
  (BitVec.ofNat 8 k, { f with c := carry, z := BitVec.ofNat 8 k == 0, n := (BitVec.ofNat 8 k).msb })

/-- R171: ASL as a number. -/
theorem shiftLeft_eq (m : Byte) (f : Flags) :
    shiftLeft m f = shifted (2 * m.toNat % 256) (decide (128 ≤ m.toNat)) f := by
  rw [shiftLeft, shiftLeft_one_eq_ofNat, bit7_eq_decide, setZN_eq, shifted]

/-- R172: LSR as a number. -/
theorem shiftRight_eq (m : Byte) (f : Flags) :
    shiftRight m f = shifted (m.toNat / 2) (decide (m.toNat % 2 = 1)) f := by
  rw [shiftRight, ushiftRight_one_eq_ofNat, bit0_eq_decide, setZN_eq, shifted]

/-- R173: ROL as a number. -/
theorem rotateLeft_eq (m : Byte) (f : Flags) :
    rotateLeft m f = shifted (2 * m.toNat % 256 + flagNat f.c) (decide (128 ≤ m.toNat)) f := by
  rw [rotateLeft, shiftLeft_one_or_carry_eq_ofNat, bit7_eq_decide, setZN_eq, shifted]

/-- R174: ROR as a number. -/
theorem rotateRight_eq (m : Byte) (f : Flags) :
    rotateRight m f = shifted (m.toNat / 2 + 128 * flagNat f.c) (decide (m.toNat % 2 = 1)) f := by
  rw [rotateRight, ushiftRight_one_or_carry_eq_ofNat, bit0_eq_decide, setZN_eq, shifted]

/-- No operand write reads the flags or `CYC` (R28, R116), so they may be set before it. -/
theorem writeOperand_flags_cyc (src : OperandSource) (v : Byte) (s : State) (f : Flags) (n : Nat) :
    writeOperand src v { s with flags := f, cyc := n } = { writeOperand src v s with flags := f, cyc := n } := by
  cases src with
  | addr ea crossed => exact memWrite_flags_cyc ea v s f n
  | imm m => rfl
  | noOperand => rfl

/-- R57: a read-modify-write reads its operand once and then writes it once, to the same place. -/
theorem exec_modifies_eq {i : Instr} {f : Byte → Flags → Byte × Flags} (h : modifyFunction i.op = some f) (s : State) :
    let src := (resolve i.operand s).1
    let m := readOperand src (resolve i.operand s).2
    exec i s = .next (writeOperand src (f m.1 s.flags).1 { m.2 with
      flags := (f m.1 s.flags).2
      cyc := s.cyc + modifyCycles i.mode }) := by
  intro src m
  have hcyc : (writeOperand src (f m.1 s.flags).1 m.2).cyc = s.cyc := by simp [m]
  have hm : operandValue i.operand s = m := rfl
  rw [exec_modifies h, modifyState, hm, addCycles,
    writeOperand_flags_cyc src _ m.2 (f m.1 s.flags).2 (s.cyc + modifyCycles i.mode), ← hcyc]

/-- Settles O44: the rows by evaluation of the opcode map, each operation by `exec_modifies_eq` and its equation as a
number; the carry of a rotate is the one of `s`. -/
theorem shiftsAndRotates : Obligations.ShiftsAndRotates := by
  refine ⟨rfl, rfl, rfl, rfl, fun i s => ⟨fun h => ?_, fun h => ?_, fun h => ?_, fun h => ?_⟩⟩
  · rw [exec_modifies_eq (f := shiftLeft) (by rw [h]; rfl), shiftLeft_eq]
    rfl
  · rw [exec_modifies_eq (f := shiftRight) (by rw [h]; rfl), shiftRight_eq]
    rfl
  · rw [exec_modifies_eq (f := rotateLeft) (by rw [h]; rfl), rotateLeft_eq]
    rfl
  · rw [exec_modifies_eq (f := rotateRight) (by rw [h]; rfl), rotateRight_eq]
    rfl

end Sys2Proof.Machine
end

section
/-! SUPPORT. Control transfer (44_control_transfer.md R180 to R191): the branch target and the indirect pointer as
numbers, a branch and both jumps as one equation on the state, and the round trip of a word over the stack. -/

namespace Sys2Proof.Machine

/-- R113: sign-extending the offset and adding it is the integer sum mod 65536. -/
theorem add_sext16_eq_ofInt (w : Word) (r : Byte) : w + sext16 r = BitVec.ofInt 16 ((w.toNat : Int) + r.toInt) := by
  rw [BitVec.ofInt_add, BitVec.ofInt_natCast, BitVec.ofNat_toNat, BitVec.setWidth_eq]
  rfl

/-- A page number is the number of 256-byte blocks below the address. -/
theorem hi_ne_hi_iff (v w : Word) : hi v ≠ hi w ↔ v.toNat / 256 ≠ w.toNat / 256 := by
  rw [ne_eq, ← BitVec.toNat_inj, toNat_hi, toNat_hi]

/-- R113: the target as a number, and whether it lies on another page than the next instruction. -/
theorem resolve_relative_eq (r : Byte) (s : State) :
    let target := BitVec.ofInt 16 ((s.pc.toNat : Int) + r.toInt)
    resolve (.relative r) s = (.addr target (decide (target.toNat / 256 ≠ s.pc.toNat / 256)), s) := by
  simp only [resolve, add_sext16_eq_ofInt, hi_ne_hi_iff]

/-- R180: 2 cycles and `PC` kept when not taken; 3, or 4 to another page, and `PC` at the target when taken. -/
theorem branchState_eq (cond : Bool) (r : Byte) (s : State) :
    let target := BitVec.ofInt 16 ((s.pc.toNat : Int) + r.toInt)
    branchState cond r s = if cond then { s with
        pc := target
        cyc := s.cyc + if target.toNat / 256 ≠ s.pc.toNat / 256 then 4 else 3 }
      else { s with cyc := s.cyc + 2 } := by
  intro target
  have hcycles : 3 + crossCycle true (.addr target (decide (target.toNat / 256 ≠ s.pc.toNat / 256))) =
      if target.toNat / 256 ≠ s.pc.toNat / 256 then 4 else 3 := by
    by_cases hpage : target.toNat / 256 = s.pc.toNat / 256 <;> simp [crossCycle, OperandSource.crossed, hpage]
  rw [branchState, resolve_relative_eq, hcycles]
  rfl

/-- R180: an instruction whose branch condition has the value `taken` is that branch on its offset. -/
theorem exec_branch_eq {i : Instr} {r : Byte} {s : State} {taken : Bool}
    (hcond : (branchCondition i.op).map (fun cond => cond s) = some taken) (hoperand : i.operand = .relative r) :
    exec i s = .next (branchState taken r s) := by
  obtain ⟨cond, hop, rfl⟩ := Option.map_eq_some_iff.mp hcond
  obtain ⟨r', hoperand', hexec⟩ := exec_branches hop s
  cases hoperand.symm.trans hoperand'
  exact hexec

/-- Settles O45: the rows by evaluation of the opcode map, each branch by its condition and the common rule
`branchState_eq`. -/
theorem branchesTestTheirFlag : Obligations.BranchesTestTheirFlag := by
  refine ⟨by decide, fun r s => ?_⟩
  simp only [← branchState_eq]
  exact ⟨exec_branch_eq rfl rfl, exec_branch_eq rfl rfl, exec_branch_eq rfl rfl, exec_branch_eq rfl rfl,
    exec_branch_eq rfl rfl, exec_branch_eq rfl rfl, exec_branch_eq rfl rfl, exec_branch_eq rfl rfl⟩

/-- R54: a word from its two bytes, as a number. -/
theorem word_eq_ofNat (h l : Byte) : word h l = BitVec.ofNat 16 (h.toNat * 256 + l.toNat) := by
  rw [← toNat_word, BitVec.ofNat_toNat, BitVec.setWidth_eq]

/-- R110: the address of the pointer's high byte stays on the page of its low byte. -/
theorem word_hi_lo_add_one (w : Word) :
    word (hi w) (lo w + 1) = BitVec.ofNat 16 (w.toNat / 256 * 256 + (w.toNat + 1) % 256) := by
  have hlow : (lo w + 1).toNat = (w.toNat + 1) % 256 := by
    rw [BitVec.toNat_add, toNat_lo]
    exact Nat.mod_add_mod ..
  rw [word_eq_ofNat, toNat_hi, hlow]

/-- R110: two bus reads on one page, low byte first, give the address. -/
theorem resolve_indirect_eq (w : Word) (s : State) :
    let l := memRead w s
    let h := memRead (BitVec.ofNat 16 (w.toNat / 256 * 256 + (w.toNat + 1) % 256)) l.2
    resolve (.indirect w) s = (.addr (BitVec.ofNat 16 (h.1.toNat * 256 + l.1.toNat)) false, h.2) := by
  simp only [resolve, readWord, word_hi_lo_add_one]
  rw [word_eq_ofNat]

/-- Resolving an operand changes at most the record of device accesses. -/
theorem resolve_state (o : Operand) (s : State) : (resolve o s).2 = { s with devLog := (resolve o s).2.devLog } := by
  apply State.ext <;> simp

/-- R189: a jump moves `PC` to the effective address and keeps all else but the record of device accesses. -/
theorem jump_eq (o : Operand) (n : Nat) (s : State) : jump o n s = .next { s with
    pc := (resolve o s).1.ea, devLog := (resolve o s).2.devLog, cyc := s.cyc + n } := by
  rw [jump, resolve_state]
  rfl

/-- Settles O46: both forms by `jump_eq`, the pointer reads of the indirect one by `resolve_indirect_eq`. -/
theorem jumpsLoadPc : Obligations.JumpsLoadPc := by
  refine ⟨by decide, fun w s => ⟨jump_eq (.absolute w) 3 s, ?_⟩⟩
  have hjump : exec (.jmpInd w) s = _ := jump_eq (.indirect w) 5 s
  rwa [resolve_indirect_eq] at hjump

/-- R190: JSR is a push of `PC - 1` and a jump. -/
theorem exec_jsr (w : Word) (s : State) :
    exec (.jsr w) s = .next (addCycles 6 { push16 (s.pc - 1) s with pc := w }) := rfl

/-- R20: neighbouring stack offsets, the wrap included, are different bytes of RAM. -/
theorem stackCell_ne_stackCell_sub_one (p : Byte) : stackCell p ≠ stackCell (p - 1) := by
  unfold stackCell
  bv_omega

/-- R23: a word pushed onto canonical RAM comes off again, from any state with that RAM and stack pointer. -/
theorem pull16_of_push16 {s t : State} {w : Word} (hwf : s.ram.wf config.ramSize = true)
    (hram : t.ram = (push16 w s).ram) (hsp : t.sp = s.sp - 2) : pull16 t = (w, { t with sp := s.sp }) := by
  have hlow : t.sp + 1 = s.sp - 1 := by bv_omega
  have hhigh : t.sp + 2 = s.sp := by bv_omega
  rw [push16_eq] at hram
  rw [pull16_eq, hram, hlow, hhigh, Memory.read_write_same (Memory.write_wf hwf (stackCell_lt _)),
    Memory.read_write_other (stackCell_ne_stackCell_sub_one _), Memory.read_write_same hwf, word_hi_lo]

/-- R191: RTS from a state with such a stack continues one past the word pushed. -/
theorem rtsEffect_of_push16 {s t : State} {w : Word} (hwf : s.ram.wf config.ramSize = true)
    (hram : t.ram = (push16 w s).ram) (hsp : t.sp = s.sp - 2) : rtsEffect t = { t with sp := s.sp, pc := w + 1 } := by
  rw [rtsEffect, pull16_of_push16 hwf hram hsp]

/-- Settles O47: the two instructions by the equations of `push16` and `pull16`, the return by `rtsEffect_of_push16`. -/
theorem subroutineCallAndReturn : Obligations.SubroutineCallAndReturn := by
  refine ⟨rfl, rfl, fun w s => ⟨?_, ?_⟩, fun w s ⟨hwf, _⟩ => ?_⟩
  · rw [exec_jsr, push16_eq]
    rfl
  · rw [exec_implied (f := rtsEffect) rfl, rtsEffect, pull16_eq]
    rfl
  · have hreturn := rtsEffect_of_push16 (t := addCycles 6 { push16 (s.pc - 1) s with pc := w }) (w := s.pc - 1)
      hwf rfl (push16_sp _ s)
    refine ⟨_, _, exec_jsr w s, rfl, exec_implied (f := rtsEffect) rfl _, ?_⟩
    rw [hreturn]
    exact ⟨BitVec.sub_add_cancel s.pc 1, rfl⟩

end Sys2Proof.Machine
end

section
/-! SUPPORT. Stack, flag and system instructions (45_stack_flags_system.md R201 to R214): the four pushes and pulls of one
byte as equations on the state; BRK and RTI by the equations of Laws/Interrupt. -/

namespace Sys2Proof.Machine

/-- R201. -/
theorem phaEffect_eq (s : State) :
    phaEffect s = { s with ram := s.ram.write (256 + s.sp.toNat) s.a, sp := s.sp - 1 } := push8_eq s.a s

/-- R203: the byte pushed is the status byte with the stored `B` (R18). -/
theorem phpEffect_eq (s : State) :
    phpEffect s = { s with ram := s.ram.write (256 + s.sp.toNat) (statusByte s.flags), sp := s.sp - 1 } := by
  have hstatus : packP config.breakModel true s.flags = statusByte s.flags := packP_stored true s.flags
  rw [phpEffect, hstatus]
  exact push8_eq _ s

/-- R202: `A` is the byte above the stack pointer, and `Z` and `N` are that byte's. -/
theorem plaEffect_eq (s : State) :
    let v := stackByte s (s.sp + 1)
    plaEffect s = { s with a := v, flags := { s.flags with z := v == 0, n := v.msb }, sp := s.sp + 1 } := by
  simp only [plaEffect, pull8_eq, setZN_eq]
  rfl

/-- R204: all seven flags come from the byte above the stack pointer. -/
theorem plpEffect_eq (s : State) :
    plpEffect s = { s with flags := unpackP .stored (stackByte s (s.sp + 1)) s.flags, sp := s.sp + 1 } := by
  rw [plpEffect, pull8_eq]
  rfl

/-- Settles O48: each instruction is its effect and its cycles, and the four effects are the equations above. -/
theorem pushesAndPulls : Obligations.PushesAndPulls := by
  refine ⟨by decide, fun s => ⟨?_, ?_, ?_, ?_⟩⟩
  · rw [exec_implied (f := phaEffect) rfl, phaEffect_eq]
    rfl
  · rw [exec_implied (f := phpEffect) rfl, phpEffect_eq]
    rfl
  · rw [exec_implied (f := plaEffect) rfl, plaEffect_eq]
    rfl
  · rw [exec_implied (f := plpEffect) rfl, plpEffect_eq, unpackP_stored]
    rfl

/-- Settles O51: BRK is `breakEffect`, whose whole next state `breakEffect_eq` gives. -/
theorem brkTakesTheIrqVector : Obligations.BrkTakesTheIrqVector :=
  ⟨rfl, fun s => congrArg Host.Outcome.next (breakEffect_eq s)⟩

/-- Settles O52: RTI is the return of `returnFromInterrupt_eq`, its flags the bits of the first byte pulled. -/
theorem rtiRestoresFlagsAndPc : Obligations.RtiRestoresFlagsAndPc := by
  refine ⟨rfl, fun s => ?_⟩
  have hrti : exec .rti s = _ := congrArg Host.Outcome.next (returnFromInterrupt_eq s)
  rwa [unpackP_stored] at hrti

/-- Settles O50: each instruction is the effect of its operation and 2 cycles; NOP's effect is the identity. -/
theorem flagInstructionsAndNop : Obligations.FlagInstructionsAndNop :=
  ⟨by decide, fun s =>
    ⟨exec_implied (f := clcEffect) rfl s, exec_implied (f := secEffect) rfl s, exec_implied (f := cliEffect) rfl s,
      exec_implied (f := seiEffect) rfl s, exec_implied (f := cldEffect) rfl s, exec_implied (f := sedEffect) rfl s,
      exec_implied (f := clvEffect) rfl s, exec_implied (f := id) rfl s⟩⟩

end Sys2Proof.Machine
end

section
/-! SUPPORT. Interrupt requests and their service (60_exceptions.md R220, R225 to R227): what a request changes, and the
step that services an interrupt instead of fetching an instruction. -/

namespace Sys2Proof.Machine

/-- R220 (1): a step that services an interrupt is the entry and nothing more; no instruction is fetched. -/
theorem step_of_serviceInterrupt {s t : State} (hready : s.ready = true) (hservice : serviceInterrupt s = some t) :
    step s = .next t := by
  simp [step, hready, hservice]

/-- R226, R229: a pending NMI is serviced whatever `I` and the IRQ latch hold. -/
theorem serviceInterrupt_of_nmiPending {s : State} (hnmi : s.nmiPending = true) :
    serviceInterrupt s = some (enterInterrupt false config.vecNmi { s with nmiPending := false }) :=
  if_pos hnmi

/-- Settles O8: the step services the NMI, and `enterNmi_eq` gives the state the entry leaves. -/
theorem nmiEntry : Obligations.NmiEntry := by
  intro s hready hnmi
  rw [step_of_serviceInterrupt hready (serviceInterrupt_of_nmiPending hnmi), enterNmi_eq]
  rfl

/-- R225: an NMI request. -/
@[simp] theorem requestInterrupt_nmi (s : State) : s.requestInterrupt .nmi = { s with nmiPending := true } := rfl

/-- R225: an IRQ request. -/
@[simp] theorem requestInterrupt_irq (s : State) : s.requestInterrupt .irq = { s with irqPending := true } := rfl

/-- R225: requests are not counted. -/
theorem requestInterrupt_twice (k : InterruptKind) (s : State) :
    (s.requestInterrupt k).requestInterrupt k = s.requestInterrupt k := by
  cases k with
  | nmi => simp only [requestInterrupt_nmi]
  | irq => simp only [requestInterrupt_irq]

/-- Settles O55: one equation for each kind of request, and a request of either kind made twice. -/
theorem requestsSetTheirLatch : Obligations.RequestsSetTheirLatch :=
  fun s => ⟨requestInterrupt_nmi s, requestInterrupt_irq s, fun k => requestInterrupt_twice k s⟩

end Sys2Proof.Machine
end

section
/-! SUPPORT. The host's move `reset()` (70_reset_and_hazards.md R251). -/

namespace Sys2Proof.Machine

/-- R54, R55: the reset vector is a word of the last bank, and reading it changes nothing, `devLog` included. -/
theorem readWord_vecReset (s : State) :
    readWord config.vecReset (config.vecReset + 1) s = (lastBankWord s 0x3FFC, s) :=
  readWord_vector s (by decide) (by decide)

/-- Settles O54: with a program the move is not refused, and its one use of the bus, to read the reset vector, changes
nothing. The vector's word is that of the state before: the registers loaded first are no part of a bank. -/
theorem resetMoveLoadsResetState : Obligations.ResetMoveLoadsResetState := by
  intro s hcount
  have hprogram : s.bankCount ≠ 0 := Nat.one_le_iff_ne_zero.mp hcount
  simp only [State.resetMove, if_neg hprogram, readWord_vecReset]
  rfl

end Sys2Proof.Machine
end

section
/-! SUPPORT. The decoder and the encoder as inverses of each other (30_encoding.md R80 to R86): the decoder on the bytes
of an operand, and the bytes of the instruction a row of the opcode map makes. -/

namespace Sys2Proof

open Sys2Proof.Machine

/-- R82: after an opcode byte the decoder reads exactly the operand bytes of its row's mode, whatever follows them. -/
theorem decode_opcode_operand {b : Byte} {r : OpcodeRow} {o : Operand} (hrow : rowOfByte b = some r)
    (hmode : r.mode = o.mode) (rest : List Byte) : decode (b :: (o.bytes ++ rest)) = .ok (r.make o.word, rest) := by
  cases o <;>
    simp [decode, hrow, hmode, Operand.mode, Mode.operandBytes, Operand.bytes, Operand.word, word_hi_lo]

/-- Settles O1: the opcode of an instruction selects the row that makes it again from its operand, and the decoder reads
that operand's bytes. -/
theorem decodeOfEncode : Obligations.DecodeOfEncode := by
  intro i rest
  obtain ⟨r, hrow, -, hmode, hmake⟩ := rowOfByte_opcode i
  have hdecode := decode_opcode_operand hrow hmode rest
  rwa [hmake] at hdecode

/-- R86: a row makes instructions with its own opcode, and with the bytes of the operand word that its mode has. -/
theorem encode_make : ∀ r ∈ opcodeMap, ∀ w : Word,
    encode (r.make w) = r.opcode :: [lo w, hi w].take r.mode.operandBytes := by
  simp only [opcodeMap, rowsAdcToBit, rowsBmiToClc, rowsCldToDec, rowsDexToJmp, rowsJsrToOra, rowsPhaToRti,
    rowsRtsToStx, rowsStyToTya, List.forall_mem_append, List.forall_mem_cons, List.not_mem_nil, false_imp_iff,
    implies_true, and_true]
  and_intros <;> exact fun _ => rfl

/-- Settles O2: the row the decoder found makes an instruction whose bytes are the ones the decoder took. -/
theorem encodeOfDecode : Obligations.EncodeOfDecode := by
  intro bs rest i h
  unfold decode at h
  split at h
  next => cases h
  next b tail =>
    split at h
    next => cases h
    next r hrow =>
      obtain ⟨hmem, rfl⟩ := rowOfByte_sound hrow
      have hencode := encode_make r hmem
      split at h
      next hlen => cases h; simp [hencode, hlen]
      next x hlen => cases h; simp [hencode, hlen, lo_zext16]
      next x y hlen => cases h; simp [hencode, hlen, lo_word, hi_word]
      next => cases h

/-- Settles O3: each legal word is the encoding of its instruction, which the decoder reads back; 0x02 has no row. -/
theorem specWordsDecode : Obligations.SpecWordsDecode :=
  ⟨decodeOfEncode .clc [], decodeOfEncode .aslAcc [], decodeOfEncode (.ldaImm 0x10) [],
    decodeOfEncode (.ldaZp 0x10) [], decodeOfEncode (.ldaZpx 0x10) [], decodeOfEncode (.ldxZpy 0x10) [],
    decodeOfEncode (.ldaAbs 0x1234) [], decodeOfEncode (.ldaAbx 0x1234) [], decodeOfEncode (.ldaAby 0x1234) [],
    decodeOfEncode (.jmpInd 0x1234) [], decodeOfEncode (.ldaIzx 0x10) [], decodeOfEncode (.ldaIzy 0x10) [],
    decodeOfEncode (.bne 0xF9) [], decodeOfEncode .nop [], decodeOfEncode (.adcImm 0x50) [], decodeOfEncode .brk [],
    rfl, decodeOfEncode (.staAbs 0x1234) [], decodeOfEncode .tax [], decodeOfEncode (.cmpImm 0x40) [],
    decodeOfEncode (.incZp 0x10) [], decodeOfEncode (.jsr 0x8010) [], decodeOfEncode .pha []⟩

end Sys2Proof
end

section
/-! SUPPORT. `exec` inverted: the next state of an instruction is that of one of ten shapes, each with a name. -/

namespace Sys2Proof.Machine

/-- The next states `exec i s` can answer, by the shape of the instruction (`exec_shape`). -/
inductive ExecutesTo (i : Instr) (s : State) : State → Prop
  | read {f : Byte → State → State} (hop : readEffect i.op = some f) : ExecutesTo i s (readState i f s)
  | store {reg : State → Byte} (hop : storedRegister i.op = some reg) : ExecutesTo i s (storeState i reg s)
  | modify {f : Byte → Flags → Byte × Flags} (hop : modifyFunction i.op = some f) :
    ExecutesTo i s (modifyState i f s)
  | implied {f : State → State} {n : Nat} (hop : impliedEffect i.op = some (f, n)) :
    ExecutesTo i s (addCycles n (f s))
  | branch {cond : State → Bool} {r : Byte} (hop : branchCondition i.op = some cond)
    (hoperand : i.operand = .relative r) : ExecutesTo i s (branchState (cond s) r s)
  | jmpAbs {w : Word} (hi : i = .jmpAbs w) : ExecutesTo i s (addCycles 3 { s with pc := w })
  | jmpInd {w : Word} (hi : i = .jmpInd w) : ExecutesTo i s (addCycles 5
    { (resolve (.indirect w) s).2 with pc := (resolve (.indirect w) s).1.ea })
  | jsr {w : Word} (hi : i = .jsr w) : ExecutesTo i s (addCycles 6 { push16 (s.pc - 1) s with pc := w })
  | brk (hi : i = .brk) : ExecutesTo i s (breakEffect s)
  | rti (hi : i = .rti) : ExecutesTo i s (returnFromInterrupt s)

theorem executesTo_of_exec {i : Instr} {s t : State} (h : exec i s = .next t) : ExecutesTo i s t := by
  have next_eq {u : State} (he : exec i s = .next u) : u = t := Host.Outcome.next.inj (he.symm.trans h)
  rcases exec_shape i s with ⟨_, hop, he⟩ | ⟨_, hop, he⟩ | ⟨_, hop, he⟩ | ⟨_, _, hop, he⟩ | ⟨_, _, hop, ho, he⟩ |
    ⟨_, hi, he⟩ | ⟨_, hi, he⟩ | ⟨_, hi, he⟩ | ⟨hi, he⟩ | ⟨hi, he⟩ <;> rw [← next_eq he]
  · exact .read hop
  · exact .store hop
  · exact .modify hop
  · exact .implied hop
  · exact .branch hop ho
  · exact .jmpAbs hi
  · exact .jmpInd hi
  · exact .jsr hi
  · exact .brk hi
  · exact .rti hi

/-- An operation that reads its operand writes registers and flags only. -/
theorem readEffect_state {op : Op} {f : Byte → State → State} (h : readEffect op = some f) (m : Byte) (s : State) :
    f m s = { s with a := (f m s).a, x := (f m s).x, y := (f m s).y, flags := (f m s).flags } := by
  unfold readEffect at h
  split at h <;> cases h <;> rfl

end Sys2Proof.Machine
end

section
/-! SUPPORT. What no instruction writes (10_state.md R25 to R27, 20_memory.md R50), and the invariant of a legal state
across a step. -/

namespace Sys2Proof.Machine

/-- The part of the state that is no instruction's to write: the interrupt latches (R25), the banks and the program data
(R26, R27, R50), and that the core was reset. -/
structure SystemPart where
  nmiPending : Bool
  irqPending : Bool
  bankSel : Nat
  bankCount : Nat
  prg : Memory
  ready : Bool

def State.systemPart (s : State) : SystemPart where
  nmiPending := s.nmiPending
  irqPending := s.irqPending
  bankSel := s.bankSel
  bankCount := s.bankCount
  prg := s.prg
  ready := s.ready

theorem impliedEffect_systemPart {op : Op} {f : State → State} {n : Nat} (h : impliedEffect op = some (f, n))
    (s : State) : (f s).systemPart = s.systemPart := by
  cases op with
  | pha | php => cases h; simp [State.systemPart, phaEffect, phpEffect]
  | pla | plp | rts => cases h; simp [State.systemPart, plaEffect, plpEffect, rtsEffect]
  | _ => cases h <;> rfl

/-- No instruction writes a latch, a bank, program data or the reset bit. -/
theorem exec_systemPart {i : Instr} {s t : State} (h : exec i s = .next t) : t.systemPart = s.systemPart := by
  cases executesTo_of_exec h with
  | read hop => rw [readState, readEffect_state hop]; simp [State.systemPart]
  | store => simp [storeState, State.systemPart]
  | modify => simp [modifyState, State.systemPart]
  | implied hop => exact impliedEffect_systemPart hop s
  | branch => rw [branchState]; split <;> rfl
  | jmpAbs => rfl
  | jmpInd => simp [State.systemPart]
  | jsr => simp [State.systemPart]
  | brk => rw [breakEffect_eq]; rfl
  | rti => rw [returnFromInterrupt_eq]; rfl

/-- An operation without operand leaves RAM alone unless it pushes. -/
theorem impliedEffect_ram {op : Op} {f : State → State} {n : Nat} (h : impliedEffect op = some (f, n))
    (hpha : op ≠ .pha) (hphp : op ≠ .php) (s : State) : (f s).ram = s.ram := by
  cases op with
  | pha | php => contradiction
  | pla | plp | rts => cases h; simp [plaEffect, plpEffect, rtsEffect]
  | _ => cases h <;> rfl

/-- Every instruction keeps RAM canonical and inside its array (R27). -/
theorem exec_ram_wf {i : Instr} {s t : State} (h : exec i s = .next t) (hwf : s.ram.wf config.ramSize = true) :
    t.ram.wf config.ramSize = true := by
  cases executesTo_of_exec h with
  | read hop => rw [readState, readEffect_state hop]; simpa using hwf
  | store => exact writeOperand_ram_wf (by simpa using hwf)
  | modify => exact writeOperand_ram_wf (by simpa using hwf)
  | @implied f n hop =>
    by_cases hpha : i.op = .pha
    · rw [hpha] at hop; cases hop; exact push8_ram_wf hwf
    by_cases hphp : i.op = .php
    · rw [hphp] at hop; cases hop; exact push8_ram_wf hwf
    rw [addCycles_ram, impliedEffect_ram hop hpha hphp]; exact hwf
  | branch => rw [branchState]; split <;> exact hwf
  | jmpAbs => exact hwf
  | jmpInd => simpa using hwf
  | jsr => rw [addCycles_ram]; exact push16_ram_wf hwf
  | brk => rw [breakEffect_eq]; exact pushedFrame_wf hwf
  | rti => rw [returnFromInterrupt_eq]; exact hwf

theorem fetchInstr_systemPart (s : State) : (fetchInstr s).2.systemPart = s.systemPart := by simp [State.systemPart]

/-- What a step does that completes: it services an interrupt, or it runs an instruction from a state that the fetch
left with the old system part and RAM. -/
theorem step_next {s t : State} (h : step s = .next t) : s.ready = true ∧ (serviceInterrupt s = some t ∨
    s.quiet ∧ ∃ i u, exec i u = .next t ∧ u.systemPart = s.systemPart ∧ u.ram = s.ram) := by
  obtain ⟨hready, ⟨u, hservice, rfl⟩ | ⟨hquiet, i, u, hfetch, hexec⟩⟩ := step_cases h
  · exact ⟨hready, .inl hservice⟩
  · have hu : u = (fetchInstr s).2 := by rw [hfetch]
    refine ⟨hready, .inr ⟨hquiet, i, u, hexec, ?_⟩⟩
    rw [hu]
    exact ⟨fetchInstr_systemPart s, fetchInstr_ram s⟩

/-- Interrupt entry writes no bank, no program data and not the reset bit (R227). -/
theorem serviceInterrupt_banks {s t : State} (h : serviceInterrupt s = some t) :
    t.prg = s.prg ∧ t.bankCount = s.bankCount ∧ t.bankSel = s.bankSel ∧ t.ready = s.ready := by
  rcases serviceInterrupt_eq_some h with ⟨-, rfl⟩ | ⟨-, -, -, rfl⟩
  · rw [enterNmi_eq]; exact ⟨rfl, rfl, rfl, rfl⟩
  · rw [enterIrq_eq]; exact ⟨rfl, rfl, rfl, rfl⟩

theorem serviceInterrupt_ram_wf {s t : State} (h : serviceInterrupt s = some t)
    (hwf : s.ram.wf config.ramSize = true) : t.ram.wf config.ramSize = true := by
  rcases serviceInterrupt_eq_some h with ⟨-, rfl⟩ | ⟨-, -, -, rfl⟩
  · rw [enterNmi_eq]; exact pushedFrame_wf hwf
  · rw [enterIrq_eq]; exact pushedFrame_wf hwf

/-- Settles O15: neither an interrupt entry nor an instruction writes the banks, and a step needs a core that was
reset. -/
theorem programDataAndBanksAreFixed : Obligations.ProgramDataAndBanksAreFixed := by
  intro s t h
  obtain ⟨hready, hservice | ⟨-, i, u, hexec, hu, -⟩⟩ := step_next h
  · obtain ⟨hprg, hcount, hsel, hr⟩ := serviceInterrupt_banks hservice
    exact ⟨hprg, hcount, hsel, hr.trans hready⟩
  · have ht : t.systemPart = s.systemPart := (exec_systemPart hexec).trans hu
    exact ⟨congrArg SystemPart.prg ht, congrArg SystemPart.bankCount ht, congrArg SystemPart.bankSel ht,
      (congrArg SystemPart.ready ht).trans hready⟩

/-- Settles O12: the banks are fixed, so only RAM is in question, and each of the two things a step does keeps it
canonical. -/
theorem stepKeepsInvariant : Obligations.StepKeepsInvariant := by
  rintro s t ⟨hram, hprg, hcount, hsel⟩ h
  obtain ⟨hprg', hcount', hsel', -⟩ := programDataAndBanksAreFixed s t h
  have hram' : t.ram.wf config.ramSize = true := by
    obtain ⟨-, hservice | ⟨-, i, u, hexec, -, hu⟩⟩ := step_next h
    · exact serviceInterrupt_ram_wf hservice hram
    · exact exec_ram_wf hexec (hu ▸ hram)
  rw [State.Inv, hprg', hcount', hsel']
  exact ⟨hram', hprg, hcount, hsel⟩

/-- Settles O13: blank memories are canonical, and one bank is installed and selected. -/
theorem resetMeetsInvariant : Obligations.ResetMeetsInvariant :=
  ⟨⟨rfl, rfl, Nat.le_refl 1, Nat.zero_lt_one⟩, rfl⟩

/-- A completed `reset()` had a program, and left RAM, the banks and the program data as they were (R251). -/
theorem resetMove_next {s t : State} (h : s.resetMove = .next t) :
    t.ram = s.ram ∧ t.prg = s.prg ∧ t.bankCount = s.bankCount ∧ t.bankSel = s.bankSel := by
  unfold State.resetMove at h
  split at h
  · cases h
  · rw [← Host.Outcome.next.inj h]
    simp

/-- A completed install had at least one bank and its bytes, and selected the first bank (R52). -/
theorem installBanks_next {s t : State} {n : Nat} {bytes : List Byte} (h : s.installBanks n bytes = .next t) :
    1 ≤ n ∧ bytes.length = n * config.bankSize ∧
      t = { s with bankCount := n, prg := Memory.ofBytes 0 bytes, bankSel := 0 } := by
  unfold State.installBanks at h
  split at h
  · cases h
  · split at h
    next hfits => exact ⟨hfits.1, hfits.2, (Host.Outcome.next.inj h).symm⟩
    next => cases h

/-- Settles O14: a request and `reset()` touch no memory and no bank, `select_bank` stores a valid index, and an install
after power-on places canonical memories. -/
theorem hostMovesKeepInvariant : Obligations.HostMovesKeepInvariant := by
  refine ⟨fun s t k n hinv => ⟨?_, fun h => ?_, fun h => ?_⟩, fun initRam bytes n t h => ?_⟩
  · cases k <;> exact hinv
  · obtain ⟨hram, hprg, hcount, hsel⟩ := resetMove_next h
    rw [State.Inv, hram, hprg, hcount, hsel]
    exact hinv
  · obtain ⟨hn, rfl⟩ := selectBank_next h
    obtain ⟨hram, hprg, hcount, -⟩ := hinv
    exact ⟨hram, hprg, hcount, hn⟩
  · obtain ⟨hn, hlen, rfl⟩ := installBanks_next h
    exact ⟨Memory.ofBytes_wf (List.length_take_le _ _), Memory.ofBytes_wf (Nat.le_of_eq hlen), hn, hn⟩

end Sys2Proof.Machine
end

section
/-! SUPPORT. The step as fetch and `exec` (60_exceptions.md R220), and the interrupts around it (R226 to R231): when one
is serviced, when it stays pending, and the return from it. -/

namespace Sys2Proof.Machine

/-- R6: the bytes the bus shows from an address on begin with any first part of them. -/
theorem peekBytes_append {s : State} {addr : Word} {n : Nat} {xs ys : List Byte}
    (h : s.peekBytes addr n = some (xs ++ ys)) : s.peekBytes addr xs.length = some xs := by
  induction xs generalizing addr n with
  | nil => rfl
  | cons x xs ih =>
    cases n with
    | zero => simp [State.peekBytes] at h
    | succ n =>
      simp only [State.peekBytes, bind, Option.bind_eq_some_iff, pure, Option.some.injEq, List.cons_append,
        List.cons.injEq] at h
      obtain ⟨b, hb, bs, hbs, rfl, rfl⟩ := h
      simp only [List.length_cons, State.peekBytes, hb, ih hbs, bind, Option.bind_some, pure]

/-- Settles O5: the fetch of the instruction's own bytes answers it, and a quiet step runs what the fetch answers. -/
theorem stepFetchesThroughTheBus : Obligations.StepFetchesThroughTheBus :=
  fun _ _ hready hquiet hbytes => step_of_fetch hready hquiet (fetchInstr_ok hbytes)

/-- Settles O4: the decoded bytes begin with the instruction's encoding (`encodeOfDecode`), which the bus shows and the
step fetches. -/
theorem stepRunsDecodedInstruction : Obligations.StepRunsDecodedInstruction := by
  intro s n bs rest i hready hquiet hpeek hdecode _
  rw [← encodeOfDecode bs rest i hdecode] at hpeek
  have hshown := peekBytes_append hpeek
  rw [encode_length] at hshown
  have hfetch := fetchBytes_of_peek hshown
  rw [stepFetchesThroughTheBus s i hready hquiet (by rw [hfetch]), hfetch]

/-- R250: a core never reset refuses the step. -/
theorem step_of_not_ready {s : State} (hready : s.ready = false) : step s = .refused .neverReset := by
  simp [step, hready]

/-- R220 (1): where the state is not quiet an interrupt is serviced. -/
theorem exists_serviceInterrupt {s : State} (h : ¬ s.quiet) : ∃ t, serviceInterrupt s = some t :=
  Option.ne_none_iff_exists'.mp (serviceInterrupt_eq_none.not.mpr h)

/-- Settles O7: a serviceable interrupt is entered, and a legal byte is fetched as an instruction, which completes. -/
theorem stepCompletesUnlessIllegal : Obligations.StepCompletesUnlessIllegal := by
  refine fun s => ⟨step_of_not_ready, fun hready h => ?_⟩
  by_cases hquiet : s.quiet
  · have hlegal : decodeOpcode (memRead s.pc s).1 ≠ none :=
      (decodeOpcode_eq_none_iff_illegal _).not.mpr (h.resolve_left (not_not_intro hquiet))
    obtain ⟨i, u, hfetch⟩ := fetchInstr_legal hlegal
    rw [step_of_fetch hready hquiet hfetch]
    exact exec_completes i u
  · obtain ⟨t, ht⟩ := exists_serviceInterrupt hquiet
    exact ⟨t, step_of_serviceInterrupt hready ht⟩

/-- R226, R228: a pending IRQ is serviced when `I` is 0 and no NMI is pending. -/
theorem serviceInterrupt_of_irqPending {s : State} (hnmi : s.nmiPending = false) (hirq : s.irqPending = true)
    (hi : s.flags.i = false) :
    serviceInterrupt s = some (enterInterrupt false config.vecIrq { s with irqPending := false }) := by
  simp [serviceInterrupt, hnmi, hirq, hi]

/-- Settles O9: the step services the IRQ, and `enterIrq_eq` gives the state the entry leaves. -/
theorem irqEntry : Obligations.IrqEntry := by
  intro s hready hnmi hirq hi
  rw [step_of_serviceInterrupt hready (serviceInterrupt_of_irqPending hnmi hirq hi), enterIrq_eq]
  rfl

/-- Settles O10: with `I` = 1 only an NMI can be entered, which keeps the IRQ latch, and no instruction writes it. -/
theorem maskedIrqStaysPending : Obligations.MaskedIrqStaysPending := by
  intro s t hirq hi h
  obtain ⟨-, hservice | ⟨-, i, u, hexec, hu, -⟩⟩ := step_next h
  · rcases serviceInterrupt_eq_some hservice with ⟨-, rfl⟩ | ⟨-, -, hunmasked, -⟩
    · rw [enterNmi_eq]; exact hirq
    · rw [hi] at hunmasked; cases hunmasked
  · exact (congrArg SystemPart.irqPending ((exec_systemPart hexec).trans hu)).trans hirq

/-- R55: the vectors depend on the program data and the bank count only. -/
theorem lastBankWord_congr {s t : State} (hprg : t.prg = s.prg) (hcount : t.bankCount = s.bankCount) (off : Nat) :
    lastBankWord t off = lastBankWord s off := by
  simp only [lastBankWord, lastBankByte, hprg, hcount]

/-- Settles O11: the instruction leaves the latches and the last bank alone, so `irqEntry` applies to its next state. -/
theorem unmaskedIrqIsTakenNext : Obligations.UnmaskedIrqIsTakenNext := by
  intro i s t hready hnmi hirq hexec hi
  have hpart := exec_systemPart hexec
  rw [← lastBankWord_congr (congrArg SystemPart.prg hpart) (congrArg SystemPart.bankCount hpart)]
  exact irqEntry t ((congrArg SystemPart.ready hpart).trans hready) ((congrArg SystemPart.nmiPending hpart).trans hnmi)
    ((congrArg SystemPart.irqPending hpart).trans hirq) hi

/-- R227, R228: both kinds of entry push the same frame and keep `A`, `X` and `Y`. -/
theorem serviceInterrupt_frame {s t : State} (h : serviceInterrupt s = some t) :
    t.ram = pushedFrame s s.pc (statusByte s.flags) ∧ t.sp = s.sp - 3 ∧ t.a = s.a ∧ t.x = s.x ∧ t.y = s.y := by
  rcases serviceInterrupt_eq_some h with ⟨-, rfl⟩ | ⟨-, -, -, rfl⟩
  · rw [enterNmi_eq]; exact ⟨rfl, rfl, rfl, rfl, rfl⟩
  · rw [enterIrq_eq]; exact ⟨rfl, rfl, rfl, rfl, rfl⟩

/-- R20: stack offsets two apart, the wrap included, are different bytes of RAM. -/
theorem stackCell_ne_stackCell_sub_two (p : Byte) : stackCell p ≠ stackCell (p - 2) := by
  unfold stackCell
  bv_omega

/-- R227: the three bytes of a frame pushed onto canonical RAM, from the status byte up. -/
theorem pushedFrame_read {s : State} (w : Word) (p : Byte) (hwf : s.ram.wf config.ramSize = true) :
    (pushedFrame s w p).read (stackCell (s.sp - 2)) = p ∧ (pushedFrame s w p).read (stackCell (s.sp - 1)) = lo w ∧
      (pushedFrame s w p).read (stackCell s.sp) = hi w := by
  have hframe : pushedFrame s w p = ((s.ram.write (stackCell s.sp) (hi w)).write (stackCell (s.sp - 1)) (lo w)).write
    (stackCell (s.sp - 2)) p := rfl
  have hwf1 := Memory.write_wf (v := hi w) hwf (stackCell_lt s.sp)
  have hwf2 := Memory.write_wf (v := lo w) hwf1 (stackCell_lt (s.sp - 1))
  have hne : stackCell (s.sp - 1) ≠ stackCell (s.sp - 2) := by
    have h := stackCell_ne_stackCell_sub_one (s.sp - 1)
    rwa [show s.sp - 1 - 1 = s.sp - 2 by bv_omega] at h
  rw [hframe]
  refine ⟨Memory.read_write_same hwf2, ?_, ?_⟩
  · rw [Memory.read_write_other hne, Memory.read_write_same hwf1]
  · rw [Memory.read_write_other (stackCell_ne_stackCell_sub_two _),
      Memory.read_write_other (stackCell_ne_stackCell_sub_one _), Memory.read_write_same hwf]

/-- R214, R231: RTI from a state with such a frame gives back its counter, its flags and the stack pointer. -/
theorem returnFromInterrupt_of_pushedFrame {s t : State} {w : Word} {f : Flags}
    (hwf : s.ram.wf config.ramSize = true) (hram : t.ram = pushedFrame s w (statusByte f)) (hsp : t.sp = s.sp - 3) :
    returnFromInterrupt t = { t with flags := f, sp := s.sp, pc := w, cyc := t.cyc + 6 } := by
  obtain ⟨hstatus, hlow, hhigh⟩ := pushedFrame_read w (statusByte f) hwf
  have h1 : t.sp + 1 = s.sp - 2 := by bv_omega
  have h2 : t.sp + 2 = s.sp - 1 := by bv_omega
  have h3 : t.sp + 3 = s.sp := by bv_omega
  have hbyte (p : Byte) : stackByte t p = (pushedFrame s w (statusByte f)).read (stackCell p) := by
    rw [← hram]; rfl
  rw [returnFromInterrupt_eq, h1, h2, h3, hbyte, hbyte, hbyte, hstatus, hlow, hhigh, unpackP_statusByte, word_hi_lo]

/-- Settles O53: the entry pushes `PC` and the status byte, and RTI pulls them from the frame it left. -/
theorem entryThenRtiRestores : Obligations.EntryThenRtiRestores := by
  rintro s ⟨hwf, -⟩ hready hserviceable
  obtain ⟨t, ht⟩ := exists_serviceInterrupt hserviceable
  obtain ⟨hram, hsp, ha, hx, hy⟩ := serviceInterrupt_frame ht
  exact ⟨t, _, step_of_serviceInterrupt hready ht,
    congrArg Host.Outcome.next (returnFromInterrupt_of_pushedFrame hwf hram hsp), rfl, rfl, rfl, ha, hx, hy⟩

end Sys2Proof.Machine
end

section
/-! SUPPORT. Noninterference (10_state.md R16, R25, R28; 42_arithmetic_logic.md R157): what no instruction reads may be
changed before or after `exec`, with the same outcome. -/

namespace Sys2Proof.Machine

/-- A change of the parts of the state that no instruction reads, but for those that push or write `D`: the Decimal
flag, the two latches and `CYC`. -/
structure Retouch where
  decimal : Bool → Bool
  nmi : Bool → Bool
  irq : Bool → Bool
  cycles : Nat

def Retouch.flags (r : Retouch) (f : Flags) : Flags := { f with d := r.decimal f.d }

def Retouch.apply (r : Retouch) (s : State) : State :=
  { s with
    flags := r.flags s.flags
    nmiPending := r.nmi s.nmiPending
    irqPending := r.irq s.irqPending
    cyc := s.cyc + r.cycles }

section Retouch

variable (r : Retouch)

@[simp] theorem Retouch.apply_x (s : State) : (r.apply s).x = s.x := rfl
@[simp] theorem Retouch.apply_y (s : State) : (r.apply s).y = s.y := rfl

theorem addCycles_retouch (n : Nat) (s : State) : addCycles n (r.apply s) = r.apply (addCycles n s) := by
  simp only [addCycles, Retouch.apply, Nat.add_right_comm]

/-- The bus does not see a retouch: the same byte, device bytes included, and the same change of the state. -/
theorem memRead_retouch (a : Word) (s : State) :
    memRead a (r.apply s) = ((memRead a s).1, r.apply (memRead a s).2) := by
  simp only [memRead, show region (r.apply s) a = region s a from rfl]
  cases region s a <;> rfl

theorem memWrite_retouch (a : Word) (v : Byte) (s : State) :
    memWrite a v (r.apply s) = r.apply (memWrite a v s) := by
  simp only [memWrite, show region (r.apply s) a = region s a from rfl]
  cases region s a <;> rfl

theorem readWord_retouch (al ah : Word) (s : State) :
    readWord al ah (r.apply s) = ((readWord al ah s).1, r.apply (readWord al ah s).2) := by
  simp only [readWord, memRead_retouch]

theorem resolve_retouch (o : Operand) (s : State) :
    resolve o (r.apply s) = ((resolve o s).1, r.apply (resolve o s).2) := by
  cases o with
  | indirect | indirectPreIndexedX | indirectPostIndexedY =>
    simp only [resolve, readWord_retouch, Retouch.apply_x, Retouch.apply_y]
  | _ => rfl

theorem operandValue_retouch (o : Operand) (s : State) :
    operandValue o (r.apply s) = ((operandValue o s).1, r.apply (operandValue o s).2) := by
  rw [operandValue, resolve_retouch, operandValue]
  cases (resolve o s).1 with
  | addr ea crossed => exact memRead_retouch r ea _
  | imm | noOperand => rfl

theorem writeOperand_retouch (src : OperandSource) (v : Byte) (s : State) :
    writeOperand src v (r.apply s) = r.apply (writeOperand src v s) := by
  cases src with
  | addr ea crossed => exact memWrite_retouch r ea v s
  | imm | noOperand => rfl

theorem push16_retouch (w : Word) (s : State) : push16 w (r.apply s) = r.apply (push16 w s) := by
  rw [push16_eq, push16_eq]
  rfl

theorem readEffect_retouch {op : Op} {f : Byte → State → State} (h : readEffect op = some f) (m : Byte) (s : State) :
    f m (r.apply s) = r.apply (f m s) := by
  unfold readEffect at h
  split at h <;> cases h <;> rfl

theorem modifyFunction_retouch {op : Op} {f : Byte → Flags → Byte × Flags} (h : modifyFunction op = some f) (m : Byte)
    (g : Flags) : f m (r.flags g) = ((f m g).1, r.flags (f m g).2) := by
  unfold modifyFunction at h
  split at h <;> cases h <;> rfl

theorem branchCondition_retouch {op : Op} {cond : State → Bool} (h : branchCondition op = some cond) (s : State) :
    cond (r.apply s) = cond s := by
  unfold branchCondition at h
  split at h <;> cases h <;> rfl

/-- The operations that write or push the Decimal flag (R16). -/
def decimalOps : List Op := [.php, .plp, .brk, .rti, .sed, .cld]

theorem impliedEffect_retouch {op : Op} {f : State → State} {n : Nat} (h : impliedEffect op = some (f, n)) (s : State)
    (hd : op ∉ decimalOps ∨ r.decimal = id) : f (r.apply s) = r.apply (f s) := by
  cases op with
  | php | plp | sed | cld =>
    -- a retouch that leaves `D` leaves the flags, so the byte pushed and the flags pulled are the same
    obtain ⟨decimal, nmi, irq, cycles⟩ := r
    obtain rfl : decimal = id := hd.resolve_left (not_not_intro (by decide))
    cases h
    simp only [phpEffect_eq, plpEffect_eq, sedEffect, cldEffect]
    rfl
  | pha | pla | rts =>
    cases h
    simp only [phaEffect_eq, plaEffect_eq, rtsEffect, pull16_eq]
    rfl
  | _ => cases h <;> rfl

theorem breakEffect_retouch (hd : r.decimal = id) (s : State) : breakEffect (r.apply s) = r.apply (breakEffect s) := by
  obtain ⟨decimal, nmi, irq, cycles⟩ := r
  obtain rfl : decimal = id := hd
  simp only [breakEffect_eq, Retouch.apply, Nat.add_right_comm]
  rfl

theorem returnFromInterrupt_retouch (hd : r.decimal = id) (s : State) :
    returnFromInterrupt (r.apply s) = r.apply (returnFromInterrupt s) := by
  obtain ⟨decimal, nmi, irq, cycles⟩ := r
  obtain rfl : decimal = id := hd
  simp only [returnFromInterrupt_eq, Retouch.apply, Nat.add_right_comm]
  rfl

theorem readState_retouch {i : Instr} {f : Byte → State → State} (hop : readEffect i.op = some f) (s : State) :
    readState i f (r.apply s) = r.apply (readState i f s) := by
  simp only [readState, resolve_retouch, operandValue_retouch, readEffect_retouch r hop, addCycles_retouch]

theorem storeState_retouch {i : Instr} {reg : State → Byte} (hop : storedRegister i.op = some reg) (s : State) :
    storeState i reg (r.apply s) = r.apply (storeState i reg s) := by
  have hreg : reg (r.apply s) = reg s := by
    unfold storedRegister at hop
    split at hop <;> cases hop <;> rfl
  simp only [storeState, resolve_retouch, hreg, writeOperand_retouch, addCycles_retouch]

theorem modifyState_retouch {i : Instr} {f : Byte → Flags → Byte × Flags} (hop : modifyFunction i.op = some f)
    (s : State) : modifyState i f (r.apply s) = r.apply (modifyState i f s) := by
  have hf (m : Byte) : f m (r.apply s).flags = _ := modifyFunction_retouch r hop m s.flags
  simp only [modifyState, operandValue_retouch, resolve_retouch, hf, writeOperand_retouch, ← addCycles_retouch]
  rfl

theorem branchState_retouch (taken : Bool) (offset : Byte) (s : State) :
    branchState taken offset (r.apply s) = r.apply (branchState taken offset s) := by
  cases taken with
  | false => exact addCycles_retouch r 2 s
  | true => exact addCycles_retouch r _ { s with pc := (resolve (.relative offset) s).1.ea }

/-- No instruction sees a retouch, but for the six that write or push `D` where `D` is changed. -/
theorem exec_retouch (i : Instr) (s : State) (hd : i.op ∉ decimalOps ∨ r.decimal = id) :
    exec i (r.apply s) = mapNext r.apply (exec i s) := by
  obtain ⟨t, ht⟩ := exec_completes i s
  rw [ht, mapNext]
  cases executesTo_of_exec ht with
  | read hop => rw [exec_reads hop, readState_retouch r hop]
  | store hop => rw [exec_stores hop, storeState_retouch r hop]
  | modify hop => rw [exec_modifies hop, modifyState_retouch r hop]
  | implied hop => rw [exec_implied hop, impliedEffect_retouch r hop s hd, addCycles_retouch]
  | branch hop hoperand =>
    rw [exec_branch_eq (by rw [hop, Option.map_some, branchCondition_retouch r hop]) hoperand, branchState_retouch]
  | @jmpAbs w hi => subst hi; exact congrArg Host.Outcome.next (addCycles_retouch r 3 { s with pc := w })
  | @jmpInd w hi =>
    subst hi
    show jump (.indirect w) 5 (r.apply s) = _
    rw [jump, resolve_retouch]
    exact congrArg Host.Outcome.next (addCycles_retouch r 5
      { (resolve (.indirect w) s).2 with pc := (resolve (.indirect w) s).1.ea })
  | @jsr w hi =>
    subst hi
    rw [exec_jsr, push16_retouch]
    exact congrArg Host.Outcome.next (addCycles_retouch r 6 { push16 (s.pc - 1) s with pc := w })
  | brk hi =>
    subst hi
    exact congrArg Host.Outcome.next (breakEffect_retouch r (hd.resolve_left (not_not_intro (by decide))) s)
  | rti hi =>
    subst hi
    exact congrArg Host.Outcome.next (returnFromInterrupt_retouch r (hd.resolve_left (not_not_intro (by decide))) s)

end Retouch

/-- Settles O16: latches and `CYC` are a retouch that leaves `D`. -/
theorem latchesAndCycAreInert : Obligations.LatchesAndCycAreInert :=
  fun i s nmi irq k => exec_retouch ⟨id, fun _ => nmi, fun _ => irq, k⟩ i s (.inr rfl)

/-- Settles O17: setting `D` is a retouch, and the six operations left out are `decimalOps`. -/
theorem decimalIsInert : Obligations.DecimalIsInert :=
  fun i s d hop => exec_retouch ⟨fun _ => d, id, id, 0⟩ i s (.inl hop)

end Sys2Proof.Machine
end

section
/-! SUPPORT. The "written by" columns of 10_state.md R11 to R16: which operations write a flag and which write a
register. -/

namespace Sys2Proof.Machine

/-- R16: flags `g` come from flags `f` by writes that the "written by" columns allow to `op`. -/
def FlagsWrittenBy (op : Op) (f g : Flags) : Prop :=
  (op ∉ [.adc, .sbc, .cmp, .cpx, .cpy, .asl, .lsr, .rol, .ror, .clc, .sec, .plp, .rti] → g.c = f.c) ∧
  (op ∉ [.lda, .ldx, .ldy, .tax, .tay, .txa, .tya, .tsx, .pla, .and, .ora, .eor, .adc, .sbc, .inc, .dec, .inx, .iny,
      .dex, .dey, .asl, .lsr, .rol, .ror, .cmp, .cpx, .cpy, .bit, .plp, .rti] → g.z = f.z ∧ g.n = f.n) ∧
  (op ∉ [.sei, .cli, .brk, .plp, .rti] → g.i = f.i) ∧
  (op ∉ [.sed, .cld, .plp, .rti] → g.d = f.d) ∧
  (op ∉ [.brk, .plp, .rti] → g.b = f.b) ∧
  (op ∉ [.adc, .sbc, .bit, .clv, .plp, .rti] → g.v = f.v)

theorem FlagsWrittenBy.refl (op : Op) (f : Flags) : FlagsWrittenBy op f f :=
  ⟨fun _ => rfl, fun _ => ⟨rfl, rfl⟩, fun _ => rfl, fun _ => rfl, fun _ => rfl, fun _ => rfl⟩

theorem readEffect_flags {op : Op} {f : Byte → State → State} (h : readEffect op = some f) (m : Byte) (s : State) :
    FlagsWrittenBy op s.flags (f m s).flags := by
  cases op with
  | lda | ldx | ldy => cases h; simp [FlagsWrittenBy, ldaEffect, ldxEffect, ldyEffect, setZN]
  | and | ora | eor => cases h; simp [FlagsWrittenBy, andEffect, oraEffect, eorEffect, setZN]
  | adc | sbc => cases h; simp [FlagsWrittenBy, adcEffect, sbcEffect, addWithCarry, subtractWithBorrow, setZN]
  | bit => cases h; simp [FlagsWrittenBy, bitEffect, bitTest]
  | cmp | cpx | cpy => cases h; simp [FlagsWrittenBy, cmpEffect, cpxEffect, cpyEffect, compareFlags]
  | _ => cases h

theorem modifyFunction_flags {op : Op} {f : Byte → Flags → Byte × Flags} (h : modifyFunction op = some f) (m : Byte)
    (g : Flags) : FlagsWrittenBy op g (f m g).2 := by
  cases op with
  | inc | dec => cases h; simp [FlagsWrittenBy, increment, decrement, setZN]
  | asl | lsr | rol | ror =>
    cases h; simp [FlagsWrittenBy, shiftLeft, shiftRight, rotateLeft, rotateRight, setZN]
  | _ => cases h

theorem impliedEffect_flags {op : Op} {f : State → State} {n : Nat} (h : impliedEffect op = some (f, n)) (s : State) :
    FlagsWrittenBy op s.flags (f s).flags := by
  cases op with
  | tax | tay | txa | tya | tsx =>
    cases h; simp [FlagsWrittenBy, taxEffect, tayEffect, txaEffect, tyaEffect, tsxEffect, setZN]
  | inx | iny | dex | dey => cases h; simp [FlagsWrittenBy, inxEffect, inyEffect, dexEffect, deyEffect, setZN]
  | pla => cases h; simp [FlagsWrittenBy, plaEffect, setZN]
  | plp => cases h; simp [FlagsWrittenBy]
  | clc | sec | cli | sei | cld | sed | clv =>
    cases h; simp [FlagsWrittenBy, clcEffect, secEffect, cliEffect, seiEffect, cldEffect, sedEffect, clvEffect]
  | pha | php | rts => cases h; simp [FlagsWrittenBy, phaEffect, phpEffect, rtsEffect]
  | txs | nop => cases h; exact .refl _ _
  | _ => cases h

/-- Settles O18: each shape of an instruction writes flags by its operation's effect only; BRK writes `B` and `I`, and
RTI may write all. -/
theorem flagsHaveOnlyTheirWriters : Obligations.FlagsHaveOnlyTheirWriters := by
  intro i s t h
  show FlagsWrittenBy i.op s.flags t.flags
  cases executesTo_of_exec h with
  | read hop =>
    have hflags := readEffect_flags hop (operandValue i.operand s).1 (operandValue i.operand s).2
    rwa [operandValue_flags] at hflags
  | store => simpa [storeState] using FlagsWrittenBy.refl i.op s.flags
  | modify hop => exact modifyFunction_flags hop _ s.flags
  | implied hop => exact impliedEffect_flags hop s
  | branch => rw [branchState]; split <;> exact .refl _ _
  | jmpAbs => exact .refl _ _
  | jmpInd => simpa using FlagsWrittenBy.refl i.op s.flags
  | jsr => simpa using FlagsWrittenBy.refl i.op s.flags
  | brk hi => subst hi; simp [FlagsWrittenBy, Instr.op, breakEffect_eq]
  | rti hi => subst hi; simp [FlagsWrittenBy, Instr.op]

/-- R11 to R14, R118: the registers of `t` come from those of `s` by writes allowed to `op` in mode `m`. -/
def RegistersWrittenBy (op : Op) (m : Mode) (s t : State) : Prop :=
  (op ∉ [.adc, .sbc, .and, .ora, .eor, .lda, .pla, .txa, .tya] → m ≠ .accumulator → t.a = s.a) ∧
  (op ∉ [.ldx, .inx, .dex, .tax, .tsx] → t.x = s.x) ∧
  (op ∉ [.ldy, .iny, .dey, .tay] → t.y = s.y) ∧
  (op ∉ [.pha, .php, .pla, .plp, .jsr, .rts, .brk, .rti, .txs] → t.sp = s.sp) ∧
  (m ≠ .relative → op ∉ [.jmp, .jsr, .rts, .brk, .rti] → t.pc = s.pc)

theorem readEffect_registers {op : Op} {f : Byte → State → State} (h : readEffect op = some f) (m : Mode) (v : Byte)
    (s : State) : RegistersWrittenBy op m s (f v s) := by
  cases op with
  | lda | ldx | ldy => cases h; simp [RegistersWrittenBy, ldaEffect, ldxEffect, ldyEffect]
  | adc | sbc | and | ora | eor =>
    cases h; simp [RegistersWrittenBy, adcEffect, sbcEffect, andEffect, oraEffect, eorEffect]
  | bit | cmp | cpx | cpy => cases h; simp [RegistersWrittenBy, bitEffect, cmpEffect, cpxEffect, cpyEffect]
  | _ => cases h

theorem impliedEffect_registers {op : Op} {f : State → State} {n : Nat} (h : impliedEffect op = some (f, n))
    (m : Mode) (s : State) : RegistersWrittenBy op m s (f s) := by
  cases op with
  | tax | tay | txa | tya | tsx | txs =>
    cases h; simp [RegistersWrittenBy, taxEffect, tayEffect, txaEffect, tyaEffect, tsxEffect, txsEffect]
  | inx | iny | dex | dey => cases h; simp [RegistersWrittenBy, inxEffect, inyEffect, dexEffect, deyEffect]
  | clc | sec | cli | sei | cld | sed | clv | nop =>
    cases h
    simp [RegistersWrittenBy, clcEffect, secEffect, cliEffect, seiEffect, cldEffect, sedEffect, clvEffect]
  | pha | php => cases h; simp [RegistersWrittenBy, phaEffect, phpEffect]
  | pla | plp | rts => cases h; simp [RegistersWrittenBy, plaEffect, plpEffect, rtsEffect]
  | _ => cases h

/-- Every memory form of a read-modify-write has an effective address (R150, R151, R171 to R174). -/
theorem resolve_addr_of_modifies {i : Instr} {f : Byte → Flags → Byte × Flags} (h : modifyFunction i.op = some f)
    (hmode : i.mode ≠ .accumulator) (s : State) : ∃ ea crossed, (resolve i.operand s).1 = .addr ea crossed := by
  cases i with
  | aslAcc | lsrAcc | rolAcc | rorAcc => exact absurd rfl hmode
  | incZp | incZpx | incAbs | incAbx | decZp | decZpx | decAbs | decAbx | aslZp | aslZpx | aslAbs | aslAbx | lsrZp |
    lsrZpx | lsrAbs | lsrAbx | rolZp | rolZpx | rolAbs | rolAbx | rorZp | rorZpx | rorAbs | rorAbx => exact ⟨_, _, rfl⟩
  | _ => cases h

/-- Settles O19: the read and implied operations by their effects; a read-modify-write of memory writes no register, a
branch none but `PC`. -/
theorem registersHaveOnlyTheirWriters : Obligations.RegistersHaveOnlyTheirWriters := by
  intro i s t h
  show RegistersWrittenBy i.op i.mode s t
  cases executesTo_of_exec h with
  | read hop =>
    have hregs := readEffect_registers hop i.mode (operandValue i.operand s).1 (operandValue i.operand s).2
    simpa [RegistersWrittenBy, readState] using hregs
  | store hop =>
    obtain ⟨ea, crossed, haddr⟩ := resolve_addr_of_stores hop s
    simp [RegistersWrittenBy, storeState, haddr]
  | modify hop =>
    refine ⟨fun _ hmode => ?_, by simp [modifyState]⟩
    obtain ⟨ea, crossed, haddr⟩ := resolve_addr_of_modifies hop hmode s
    simp [modifyState, haddr]
  | implied hop => exact impliedEffect_registers hop i.mode s
  | branch _ hoperand =>
    have hmode : i.mode = .relative := congrArg Operand.mode hoperand
    rw [branchState]
    split <;> simp [RegistersWrittenBy, hmode]
  | jmpAbs hi | jmpInd hi | jsr hi => subst hi; simp [RegistersWrittenBy, Instr.op]
  | brk hi => subst hi; simp [RegistersWrittenBy, Instr.op, breakEffect_eq]
  | rti hi => subst hi; simp [RegistersWrittenBy, Instr.op, returnFromInterrupt_eq]

end Sys2Proof.Machine
end

section
/-! SUPPORT. Frames over memory: which bytes an instruction leaves, by whether it stores nothing, stores at its
effective address (20_memory.md R43, R45) or pushes (10_state.md R20 to R23). -/

namespace Sys2Proof.Machine

/-- What the bus shows depends on RAM and on what no instruction writes. -/
theorem peek_of_systemPart {s t : State} (hpart : t.systemPart = s.systemPart) (hram : t.ram = s.ram) (a : Word) :
    t.peek a = s.peek a :=
  peek_congr hram (congrArg SystemPart.prg hpart) (congrArg SystemPart.bankSel hpart)
    (congrArg SystemPart.bankCount hpart) a

/-- The operations that store to memory in some mode. -/
def storingOps : List Op := [.sta, .stx, .sty, .inc, .dec, .asl, .lsr, .rol, .ror, .pha, .php, .jsr, .brk]

theorem mem_storingOps {op : Op} (h : (∃ reg, storedRegister op = some reg) ∨ ∃ f, modifyFunction op = some f) :
    op ∈ storingOps := by
  cases op with
  | sta | stx | sty | inc | dec | asl | lsr | rol | ror => decide
  | _ => rcases h with ⟨_, h⟩ | ⟨_, h⟩ <;> cases h

/-- R83: only the read-modify-write operations have an accumulator form. -/
theorem modifies_of_mode_accumulator {i : Instr} (h : i.mode = .accumulator) :
    i.operand = .accumulator ∧ ∃ f, modifyFunction i.op = some f := by
  cases i with
  | aslAcc | lsrAcc | rolAcc | rorAcc => exact ⟨rfl, _, rfl⟩
  | _ => cases h

/-- R171 to R174: an accumulator form writes `A` and no byte of RAM. -/
theorem exec_ram_of_mode_accumulator {i : Instr} {s t : State} (h : exec i s = .next t)
    (hmode : i.mode = .accumulator) : t.ram = s.ram := by
  obtain ⟨hoperand, f, hop⟩ := modifies_of_mode_accumulator hmode
  rw [exec_modifies hop] at h
  rw [← Host.Outcome.next.inj h, modifyState, hoperand]
  rfl

/-- An operation that stores nothing leaves RAM. -/
theorem exec_ram_of_not_storing {i : Instr} {s t : State} (h : exec i s = .next t) (hstore : i.op ∉ storingOps) :
    t.ram = s.ram := by
  have hne {op : Op} (hmem : op ∈ storingOps) : i.op ≠ op := fun e => hstore (e ▸ hmem)
  cases executesTo_of_exec h with
  | read hop => rw [readState, readEffect_state hop]; simp
  | store hop => exact absurd (mem_storingOps (.inl ⟨_, hop⟩)) hstore
  | modify hop => exact absurd (mem_storingOps (.inr ⟨_, hop⟩)) hstore
  | implied hop => exact impliedEffect_ram hop (hne (by decide)) (hne (by decide)) s
  | branch => rw [branchState]; split <;> rfl
  | jmpAbs => rfl
  | jmpInd => simp
  | jsr hi => exact absurd (congrArg Instr.op hi) (hne (op := .jsr) (by decide))
  | brk hi => exact absurd (congrArg Instr.op hi) (hne (op := .brk) (by decide))
  | rti => rw [returnFromInterrupt_eq]

/-- Settles O20: such an instruction leaves RAM, and no instruction writes what else the bus shows. -/
theorem nonStoringFrame : Obligations.NonStoringFrame := by
  intro i s t h hkind
  have hram : t.ram = s.ram := by
    rcases hkind with hstore | hmode
    · exact exec_ram_of_not_storing h hstore
    · exact exec_ram_of_mode_accumulator h hmode
  exact ⟨hram, peek_of_systemPart (exec_systemPart h) hram⟩

/-- The operations that store at their effective address are the stores and the read-modify-writes. -/
theorem stores_or_modifies_of_mem {op : Op} (h : op ∈ [.sta, .stx, .sty, .inc, .dec, .asl, .lsr, .rol, .ror]) :
    (∃ reg, storedRegister op = some reg) ∨ ∃ f, modifyFunction op = some f := by
  cases op with
  | sta | stx | sty => exact .inl ⟨_, rfl⟩
  | inc | dec | asl | lsr | rol | ror => exact .inr ⟨_, rfl⟩
  | _ => simp at h

/-- A bus write from a state with the bytes of `s` leaves every byte of `s` but the one it names. -/
theorem memWrite_peek_frame {s u : State} {a ea : Word} (v : Byte) (hne : ¬ sameRamByte a ea)
    (hpart : u.systemPart = s.systemPart) (hram : u.ram = s.ram) : (memWrite ea v u).peek a = s.peek a :=
  (memWrite_peek_other hne).trans (peek_of_systemPart hpart hram a)

/-- Settles O21: both kinds make one bus write, at the effective address, after reads that change no byte. -/
theorem storingFrame : Obligations.StoringFrame := by
  intro i s t h hmem hmode a hne
  rcases stores_or_modifies_of_mem hmem with ⟨reg, hop⟩ | ⟨f, hop⟩
  · rw [exec_stores_eq hop] at h
    rw [← Host.Outcome.next.inj h]
    exact memWrite_peek_frame _ hne (by simp [State.systemPart]) (by simp)
  · rw [exec_modifies_memory_eq hop (resolve_addr_of_modifies hop hmode s)] at h
    rw [← Host.Outcome.next.inj h]
    exact memWrite_peek_frame _ hne (by simp [State.systemPart]) (by simp)

theorem addCycles_peek (n : Nat) (s : State) (a : Word) : (addCycles n s).peek a = s.peek a :=
  peek_congr rfl rfl rfl rfl a

/-- R21: a push leaves every byte but the one at the stack pointer. -/
theorem push8_peek_other {s : State} {a : Word} (v : Byte) (h : ¬ sameRamByte a (stackAddr s.sp)) :
    (push8 v s).peek a = s.peek a :=
  (peek_congr (by rfl) (by rfl) (by rfl) (by rfl) a).trans (memWrite_peek_other (v := v) h)

/-- R23: pushing a word leaves every byte but the two from the stack pointer down. -/
theorem push16_peek_other {s : State} {a : Word} (w : Word) (h : ¬ sameRamByte a (stackAddr s.sp))
    (h1 : ¬ sameRamByte a (stackAddr (s.sp - 1))) : (push16 w s).peek a = s.peek a := by
  rw [push16, push8_peek_other _ (by rwa [push8_sp]), push8_peek_other _ h]

/-- R213: BRK leaves every byte but the three from the stack pointer down. -/
theorem breakEffect_peek_other {s : State} {a : Word} (h : ¬ sameRamByte a (stackAddr s.sp))
    (h1 : ¬ sameRamByte a (stackAddr (s.sp - 1))) (h2 : ¬ sameRamByte a (stackAddr (s.sp - 2))) :
    (breakEffect s).peek a = s.peek a := by
  have hframe : (push8 (statusByte { s.flags with b := true }) (push16 (s.pc + 1) s)).peek a = s.peek a := by
    rw [push8_peek_other _ (by rwa [push16_sp]), push16_peek_other _ h h1]
  rw [← hframe, breakEffect_eq, push16_eq, push8_eq]
  exact peek_congr rfl rfl rfl rfl a

/-- The four operations that push have one form each. -/
theorem pushing_cases {i : Instr} (h : i.op ∈ [.pha, .php, .jsr, .brk]) :
    i = .pha ∨ i = .php ∨ (∃ w, i = .jsr w) ∨ i = .brk := by
  cases i with
  | pha => exact .inl rfl
  | php => exact .inr (.inl rfl)
  | jsr w => exact .inr (.inr (.inl ⟨w, rfl⟩))
  | brk => exact .inr (.inr (.inr rfl))
  | _ => simp [Instr.op] at h

/-- Settles O22: PHA and PHP are one push, JSR two, BRK three. -/
theorem pushingFrame : Obligations.PushingFrame := by
  intro i s t a h hmem h0 h1 h2
  rcases pushing_cases hmem with rfl | rfl | ⟨w, rfl⟩ | rfl
  · rw [exec_implied (f := phaEffect) rfl] at h
    rw [← Host.Outcome.next.inj h, addCycles_peek]
    exact push8_peek_other _ h0
  · rw [exec_implied (f := phpEffect) rfl] at h
    rw [← Host.Outcome.next.inj h, addCycles_peek]
    exact push8_peek_other _ h0
  · rw [exec_jsr] at h
    have hjump : State.peek { push16 (s.pc - 1) s with pc := w } a = (push16 (s.pc - 1) s).peek a :=
      peek_congr rfl rfl rfl rfl a
    rw [← Host.Outcome.next.inj h, addCycles_peek, hjump]
    exact push16_peek_other _ h0 (h1 (.head _))
  · rw [← Host.Outcome.next.inj h]
    exact breakEffect_peek_other h0 (h1 (.tail _ (.head _))) (h2 rfl)

end Sys2Proof.Machine
end

section
/-! SUPPORT. The addressing modes (40_addressing_modes.md R101 to R117) as integer formulas. -/

namespace Sys2Proof.Machine

/-- R102: a zero-page address as a number. -/
theorem zext16_eq_ofNat (b : Byte) : zext16 b = BitVec.ofNat 16 b.toNat := (BitVec.ofNat_toNat 16 b).symm

theorem zext16_le (b : Byte) : zext16 b ≤ 0x00FF := by
  have hlt := b.isLt
  rw [BitVec.le_def, toNat_zext16]
  exact Nat.le_of_lt_succ hlt

/-- R114: adding an index to an address, as a number. -/
theorem add_zext16_eq_ofNat (w : Word) (b : Byte) :
    w + zext16 b = BitVec.ofNat 16 ((w.toNat + b.toNat) % 65536) := by
  apply BitVec.eq_of_toNat_eq
  rw [BitVec.toNat_add, toNat_zext16, BitVec.toNat_ofNat, Nat.mod_mod]

/-- R114: the index carries out of the low byte exactly when the page of the address changes. -/
theorem carry_iff_page_ne (w : Word) (b : Byte) :
    (lo w).toNat + b.toNat > 0xFF ↔ (w.toNat + b.toNat) % 65536 / 256 ≠ w.toNat / 256 := by
  have hw := w.isLt
  have hb := b.isLt
  rw [toNat_lo]
  omega

/-- R111, R117: the source of IndirectPreIndexedX is the word at a zero-page pointer, its second byte wrapping. -/
theorem resolve_indirectPreIndexedX_eq (z : Byte) (s : State) : resolve (.indirectPreIndexedX z) s =
    (.addr (word (s.ram.read (z + s.x + 1).toNat) (s.ram.read (z + s.x).toNat)) false, s) := by
  simp only [resolve, readWord_zeroPage]

/-- R112, R117: the source of IndirectPostIndexedY is that word at the pointer given, plus Y. -/
theorem resolve_indirectPostIndexedY_eq (z : Byte) (s : State) : resolve (.indirectPostIndexedY z) s =
    (.addr (word (s.ram.read (z + 1).toNat) (s.ram.read z.toNat) + zext16 s.y)
      (decide ((s.ram.read z.toNat).toNat + s.y.toNat > 255)), s) := by
  simp only [resolve, readWord_zeroPage, lo_word]

/-- Settles O23: a byte zero-extended is at most 0x00FF, and the pointers are read at such addresses. -/
theorem zeroPageStaysInZeroPage : Obligations.ZeroPageStaysInZeroPage := by
  refine ⟨fun s z => ⟨zext16_le _, zext16_le _, zext16_le _⟩, fun s t z hx hy hram => ?_⟩
  have hbyte (b : Byte) : t.ram.read b.toNat = s.ram.read b.toNat := hram _ b.isLt
  simp only [resolve_indirectPreIndexedX_eq, resolve_indirectPostIndexedY_eq, hbyte, hx, hy, and_self]

/-- Settles O24: each mode by the resolver's definition, its sums as numbers. -/
theorem directModes : Obligations.DirectModes := by
  intro s v z w
  refine ⟨rfl, rfl, rfl, ?zeroPage, ?zeroPageX, ?zeroPageY, rfl, ?absoluteX, ?absoluteY⟩
  case zeroPage => rw [resolve, zext16_eq_ofNat]
  case zeroPageX | zeroPageY => rw [resolve, zext16_eq_ofNat, BitVec.toNat_add]
  case absoluteX | absoluteY => simp only [resolve, add_zext16_eq_ofNat, carry_iff_page_ne]

/-- Settles O25: this is `resolve_indirect_eq`. -/
theorem indirectModeStaysOnItsPage : Obligations.IndirectModeStaysOnItsPage := fun s w => resolve_indirect_eq w s

/-- Settles O26: the zero-page pointers of the two modes with their sums as numbers. -/
theorem indexedIndirectModes : Obligations.IndexedIndirectModes := by
  intro s z p ptr
  have hp : (z + s.x).toNat = p := BitVec.toNat_add ..
  have hsucc (b : Byte) : (b + 1).toNat = (b.toNat + 1) % 256 := BitVec.toNat_add ..
  constructor
  · rw [resolve_indirectPreIndexedX_eq, word_eq_ofNat, hsucc, hp]
  · rw [resolve_indirectPostIndexedY_eq, add_zext16_eq_ofNat, toNat_word, hsucc]

/-- Settles O27: this is `resolve_relative_eq`. -/
theorem relativeMode : Obligations.RelativeMode := fun s r => resolve_relative_eq r s

end Sys2Proof.Machine
end

section
/-! SUPPORT. The two bus operations by region (20_memory.md R42 to R50), and RAM read back through its mirrors (R53). -/

namespace Sys2Proof.Machine

theorem memRead_of_ram {s : State} {a : Word} {c : Nat} (h : region s a = .ram c) :
    memRead a s = (s.ram.read c, s) := by simp only [memRead, h]

theorem memWrite_of_ram {s : State} {a : Word} {c : Nat} (h : region s a = .ram c) (v : Byte) :
    memWrite a v s = { s with ram := s.ram.write c v } := by simp only [memWrite, h]

theorem memRead_of_device {s : State} {a off : Word} (h : region s a = .device off) :
    memRead a s = devRead off s := by simp only [memRead, h]

theorem memWrite_of_device {s : State} {a off : Word} (h : region s a = .device off) (v : Byte) :
    memWrite a v s = devWrite off v s := by simp only [memWrite, h]

theorem memRead_of_prg {s : State} {a : Word} {k : Nat} (h : region s a = .prg k) :
    memRead a s = (s.prg.read k, s) := by simp only [memRead, h]

theorem memWrite_of_prg {s : State} {a : Word} {k : Nat} (h : region s a = .prg k) (v : Byte) :
    memWrite a v s = s := by simp only [memWrite, h]

/-- Settles O29: the region of each window, and the bus operations on it. -/
theorem busAccessByRegion : Obligations.BusAccessByRegion := fun s _ v =>
  ⟨fun h => ⟨memRead_of_ram (region_ram s h), memWrite_of_ram (region_ram s h) v⟩,
    fun h h' => ⟨memRead_of_device (region_device s h h'), memWrite_of_device (region_device s h h') v⟩,
    fun h => ⟨memRead_of_prg (region_prg s h), memWrite_of_prg (region_prg s h) v⟩⟩

/-- Settles O30: both addresses name the cell written, whose byte canonical RAM gives back; the frame is
`memWrite_peek_other`. -/
theorem ramReadsBackThroughItsMirrors : Obligations.RamReadsBackThroughItsMirrors := by
  rintro s a b v ⟨hwf, -⟩
  refine ⟨fun ⟨ha, hb, hcell⟩ => ?_, fun h => memWrite_peek_other fun ⟨hb, ha, hcell⟩ => h ⟨ha, hb, hcell.symm⟩⟩
  rw [memWrite_of_ram (region_ram_iff.mpr ⟨ha, rfl⟩), memRead_of_ram (region_ram_iff.mpr ⟨hb, rfl⟩), hcell]
  exact Memory.read_write_same hwf

end Sys2Proof.Machine
end

section
/-! SUPPORT. The accumulator forms of the shifts (43_shift_rotate.md R170), the round trip of `A` over the stack
(10_state.md R22), and the power-on sequence (70_reset_and_hazards.md R250). -/

namespace Sys2Proof.Machine

/-- R170: a read-modify-write in accumulator mode makes no bus access. -/
theorem exec_modifies_accumulator {i : Instr} {f : Byte → Flags → Byte × Flags} (hop : modifyFunction i.op = some f)
    (hoperand : i.operand = .accumulator) (s : State) :
    exec i s = .next { s with a := (f s.a s.flags).1, flags := (f s.a s.flags).2, cyc := s.cyc + 2 } := by
  rw [exec_modifies hop, modifyState, Instr.mode, hoperand]
  rfl

/-- Settles O43: each form by `exec_modifies_accumulator` and the equation of its shift as a number. -/
theorem accumulatorShifts : Obligations.AccumulatorShifts := by
  refine ⟨by decide, fun s => ⟨?_, ?_, ?_, ?_⟩⟩
  · rw [exec_modifies_accumulator (f := shiftLeft) rfl rfl, shiftLeft_eq]
    rfl
  · rw [exec_modifies_accumulator (f := shiftRight) rfl rfl, shiftRight_eq]
    rfl
  · rw [exec_modifies_accumulator (f := rotateLeft) rfl rfl, rotateLeft_eq]
    rfl
  · rw [exec_modifies_accumulator (f := rotateRight) rfl rfl, rotateRight_eq]
    rfl

/-- R22: a byte pushed onto canonical RAM comes off again, from any state with that RAM and stack pointer. -/
theorem pull8_of_push8 {s t : State} {v : Byte} (hwf : s.ram.wf config.ramSize = true)
    (hram : t.ram = (push8 v s).ram) (hsp : t.sp = s.sp - 1) : pull8 t = (v, { t with sp := s.sp }) := by
  have htop : t.sp + 1 = s.sp := by rw [hsp]; exact BitVec.sub_add_cancel s.sp 1
  rw [push8_eq] at hram
  rw [pull8_eq, hram, htop, Memory.read_write_same hwf]

/-- R202: PLA from a state with such a stack loads the byte pushed. -/
theorem plaEffect_of_push8 {s t : State} {v : Byte} (hwf : s.ram.wf config.ramSize = true)
    (hram : t.ram = (push8 v s).ram) (hsp : t.sp = s.sp - 1) :
    plaEffect t = { t with a := v, flags := setZN v t.flags, sp := s.sp } := by
  rw [plaEffect, pull8_of_push8 hwf hram hsp]

/-- Settles O49: PLA pulls the byte that PHA pushed, whatever `A` holds between them. -/
theorem phaThenPlaRestores : Obligations.PhaThenPlaRestores := by
  rintro s v ⟨hwf, -⟩
  have hpull := plaEffect_of_push8 (t := { addCycles 3 (phaEffect s) with a := v }) hwf rfl (push8_sp s.a s)
  refine ⟨_, _, exec_implied (f := phaEffect) rfl s, exec_implied (f := plaEffect) rfl _, ?_⟩
  rw [hpull]
  exact ⟨rfl, rfl⟩

/-- The memory that holds a list's bytes from index 0 up shows them in order, and 0x00 past them (logs 1 and 2). -/
theorem ofBytes_read_zero (bs : List Byte) (k : Nat) : (Memory.ofBytes 0 bs).read k = bs.getD k 0 := by
  have h := Memory.ofBytes_read (k := 0) (j := k) (bs := bs)
  rwa [Nat.zero_add] at h

/-- R250: the RAM contents given to power-on, as far as RAM reaches. -/
theorem powerOn_ram_read (initRam : List Byte) {k : Nat} (hk : k < 2048) :
    (State.powerOn initRam).ram.read k = initRam.getD k 0 := by
  refine (ofBytes_read_zero (initRam.take 2048) k).trans ?_
  simp [List.getD_eq_getElem?_getD, hk]

/-- Settles O58: the installed core has a program, so `resetMoveLoadsResetState` gives the state; the vector is the word
4 bytes below the end of the last bank. -/
theorem powerOnSequenceReachesReset : Obligations.PowerOnSequenceReachesReset := by
  constructor
  · intro initRam bytes n hn hlen
    have hlow : (n - 1) * 16384 + 0x3FFC = n * 16384 - 4 := by omega
    have hhigh : (n - 1) * 16384 + (0x3FFC + 1) = n * 16384 - 3 := by
      rw [← Nat.add_assoc, hlow]
      omega
    refine ⟨_, _, installBanks_of_fits rfl hn hlen, resetMoveLoadsResetState _ hn, rfl, rfl, rfl, rfl, rfl, rfl,
      rfl, rfl, rfl, rfl, fun k hk => powerOn_ram_read initRam hk, ?_⟩
    simp only [lastBankWord, lastBankByte, ofBytes_read_zero, hlow, hhigh]
  · refine ⟨_, installBanks_of_fits rfl (Nat.le_refl 1) List.length_replicate, ?_⟩
    rw [resetMoveLoadsResetState _ (Nat.le_refl 1)]
    simp only [show (0 : Byte) = Memory.blank from rfl, Memory.ofBytes_blank]
    rfl

end Sys2Proof.Machine
end
